-- ==== Sys2Proof/Word.lean ====
section
/-! DEFINITION. The word types of QRCORE (00_scope.md R9, 30_encoding.md R80, R86). -/

namespace Sys2Proof

/-- A command word or a response word: 32 bits (R80, R86). -/
abbrev Word := BitVec 32

/-- A codeword, or an element of GF(256): 8 bits (R100). -/
abbrev Byte := BitVec 8

/-- The value part of a response, bits 30:0 (R86); the widest control registers have this width (R22). -/
abbrev Value := BitVec 31

end Sys2Proof
end

