-- ==== Sys2Proof/Config.lean ====
section
/-! DEFINITION. The parameters of QRCORE and their values (00_scope.md R9). No parameter is left open to the
model, and the spec leaves no observable value free (70_reset_and_hazards.md R262), so there is no opaque
constant here. -/

namespace Sys2Proof

/-- `VER_MIN` and `VER_MAX` (R9). -/
def Config.verMin : Nat := 1
def Config.verMax : Nat := 40

/-- `NSYM_MAX` (R9). -/
def Config.nsymMax : Nat := 30

/-- `RS_NMAX`: data plus ECC codewords per block (R9). -/
def Config.rsNMax : Nat := 255

/-- `CW_MAX`: codewords in `CWBUF` (R9). -/
def Config.cwMax : Nat := 3706

/-- `SIZE_MAX`: the largest grid has 177 by 177 cells (R9). -/
def Config.sizeMax : Nat := 177

/-- The greatest mask index (R9). -/
def Config.maskMax : Nat := 7

/-- The first version that carries version information (42_matrix.md R152). -/
def Config.verInfoMin : Nat := 7

end Sys2Proof
end

