-- ==== Sys2Proof/Syntax.lean ====
section
/-! DEFINITION. The 28 commands of spec/opcode_table.json (30_encoding.md R84), one constructor a row. -/

namespace Sys2Proof

/-- A command. An operand that the spec treats as bits (a field element, a codeword) is a `Byte`; an operand that
is a number (a version, a level, an index, ...) is a `Nat`, which `Instr.WellFormed` bounds by its field (R81). -/
inductive Instr where
  /-- `NOP` (R200) -/
  | nop
  /-- `SRESET` (R201) -/
  | sreset
  /-- `SETVER a` (R202) -/
  | setver (a : Nat)
  /-- `SETECL a` (R203) -/
  | setecl (a : Nat)
  /-- `RDREG a` (R204) -/
  | rdreg (a : Nat)
  /-- `GFADD a, b` (R105) -/
  | gfadd (a b : Byte)
  /-- `GFMUL a, b` (R106) -/
  | gfmul (a b : Byte)
  /-- `GFDIV a, b`: dividend, divisor (R107) -/
  | gfdiv (a b : Byte)
  /-- `GFEXP a`: an exponent (R108) -/
  | gfexp (a : Nat)
  /-- `GFLOG a`: a field element (R109) -/
  | gflog (a : Byte)
  /-- `RSINIT a`: nsym (R124) -/
  | rsinit (a : Nat)
  /-- `RSDATA a`: the next data codeword (R125) -/
  | rsdata (a : Byte)
  /-- `RSRD a`: an index (R126) -/
  | rsrd (a : Nat)
  /-- `RSGEN a`: an index (R127) -/
  | rsgen (a : Nat)
  /-- `MXINIT` (R141) -/
  | mxinit
  /-- `MXFIND` (R143) -/
  | mxfind
  /-- `MXTIME` (R146) -/
  | mxtime
  /-- `MXALIGN` (R147) -/
  | mxalign
  /-- `MXRSV` (R150) -/
  | mxrsv
  /-- `MXDATA` (R155) -/
  | mxdata
  /-- `MXBUILD` (R157) -/
  | mxbuild
  /-- `MSKEVAL a`: a mask index (R182) -/
  | mskeval (a : Nat)
  /-- `MSKSEL` (R183) -/
  | msksel
  /-- `MSKFORCE a`: a mask index (R184) -/
  | mskforce (a : Nat)
  /-- `FINAL` (R185) -/
  | final
  /-- `CWPUSH a`: one codeword (R205) -/
  | cwpush (a : Byte)
  /-- `CWRD h`: an index (R206) -/
  | cwrd (h : Nat)
  /-- `GRIDRD a, b`: row, column (R207) -/
  | gridrd (a b : Nat)
  deriving DecidableEq, Repr

end Sys2Proof
end

