-- ==== Sys2Proof/WellFormed.lean ====
section
/-! DEFINITION. The well-formed commands: every numeric operand fits the field its format gives it
(30_encoding.md R80, R81). A number that fits is encodable even where the command then faults on it (a version of
41): R81 says it is still decoded. -/

namespace Sys2Proof

/-- The operand fits the 8-bit field of formats `B` and `BB`. -/
def fitsByte (a : Nat) : Bool := decide (a < 256)

/-- The operand fits the 16-bit field of format `H`. -/
def fitsHalf (h : Nat) : Bool := decide (h < 65536)

/-- The check, one arm a constructor. -/
def Instr.wellFormed : Instr → Bool
  | .nop => true
  | .sreset => true
  | .setver a => fitsByte a
  | .setecl a => fitsByte a
  | .rdreg a => fitsByte a
  | .gfadd _ _ => true
  | .gfmul _ _ => true
  | .gfdiv _ _ => true
  | .gfexp a => fitsByte a
  | .gflog _ => true
  | .rsinit a => fitsByte a
  | .rsdata _ => true
  | .rsrd a => fitsByte a
  | .rsgen a => fitsByte a
  | .mxinit => true
  | .mxfind => true
  | .mxtime => true
  | .mxalign => true
  | .mxrsv => true
  | .mxdata => true
  | .mxbuild => true
  | .mskeval a => fitsByte a
  | .msksel => true
  | .mskforce a => fitsByte a
  | .final => true
  | .cwpush _ => true
  | .cwrd h => fitsHalf h
  | .gridrd a b => fitsByte a && fitsByte b

/-- A command whose operands fit their fields. -/
abbrev Instr.WellFormed (i : Instr) : Prop := i.wellFormed = true

end Sys2Proof
end

