-- ==== Sys2Proof/Decode.lean ====
section
/-! DEFINITION. The decoder and the encoder of command words (30_encoding.md R80 to R85). The decoder is total:
a word that spells no command gives `none` (R82, R83), which step turns into `IllegalCommand`. -/

namespace Sys2Proof

/-! ## Fields of a word (R80, R81) -/

/-- `op = word[31:24]`. -/
def opField (w : Word) : Byte := w.extractLsb' 24 8

/-- `word[7:0]`: the operand `a` of format `B`, `b` of format `BB`. -/
def lowField (w : Word) : Byte := w.extractLsb' 0 8

/-- `word[15:8]`: the operand `a` of format `BB`. -/
def midField (w : Word) : Byte := w.extractLsb' 8 8

/-- `word[15:0]`: the operand `h` of format `H`. -/
def halfField (w : Word) : BitVec 16 := w.extractLsb' 0 16

/-! ## Decoding by format (R82): the must-be-zero bits are checked after the opcode has picked the row -/

/-- Format `Z`: bits 23:0 must be zero. -/
def decodeZ (w : Word) (i : Instr) : Option Instr :=
  if w.extractLsb' 0 24 = 0 then some i else none

/-- Format `B`: bits 23:8 must be zero. -/
def decodeB (w : Word) (f : Byte → Instr) : Option Instr :=
  if w.extractLsb' 8 16 = 0 then some (f (lowField w)) else none

/-- Format `BB`: bits 23:16 must be zero. -/
def decodeBB (w : Word) (f : Byte → Byte → Instr) : Option Instr :=
  if w.extractLsb' 16 8 = 0 then some (f (midField w) (lowField w)) else none

/-- Format `H`: bits 23:16 must be zero. -/
def decodeH (w : Word) (f : BitVec 16 → Instr) : Option Instr :=
  if w.extractLsb' 16 8 = 0 then some (f (halfField w)) else none

/-- The opcode map (R84). Every other opcode is unassigned (R83). -/
def decode (w : Word) : Option Instr :=
  match (opField w).toNat with
  | 0x00 => decodeZ w .nop
  | 0x01 => decodeZ w .sreset
  | 0x02 => decodeB w fun a => .setver a.toNat
  | 0x03 => decodeB w fun a => .setecl a.toNat
  | 0x04 => decodeB w fun a => .rdreg a.toNat
  | 0x10 => decodeBB w .gfadd
  | 0x11 => decodeBB w .gfmul
  | 0x12 => decodeBB w .gfdiv
  | 0x13 => decodeB w fun a => .gfexp a.toNat
  | 0x14 => decodeB w .gflog
  | 0x20 => decodeB w fun a => .rsinit a.toNat
  | 0x21 => decodeB w .rsdata
  | 0x22 => decodeB w fun a => .rsrd a.toNat
  | 0x23 => decodeB w fun a => .rsgen a.toNat
  | 0x30 => decodeZ w .mxinit
  | 0x31 => decodeZ w .mxfind
  | 0x32 => decodeZ w .mxtime
  | 0x33 => decodeZ w .mxalign
  | 0x34 => decodeZ w .mxrsv
  | 0x35 => decodeZ w .mxdata
  | 0x36 => decodeZ w .mxbuild
  | 0x40 => decodeB w fun a => .mskeval a.toNat
  | 0x41 => decodeZ w .msksel
  | 0x42 => decodeB w fun a => .mskforce a.toNat
  | 0x43 => decodeZ w .final
  | 0x50 => decodeB w .cwpush
  | 0x51 => decodeH w fun h => .cwrd h.toNat
  | 0x52 => decodeBB w fun a b => .gridrd a.toNat b.toNat
  | _ => none

/-! ## Encoding (R80, R84) -/

def encodeZ (op : Byte) : Word := op ++ 0#24
def encodeB (op a : Byte) : Word := op ++ 0#16 ++ a
def encodeBB (op a b : Byte) : Word := op ++ 0#8 ++ a ++ b
def encodeH (op : Byte) (h : BitVec 16) : Word := op ++ 0#8 ++ h

/-- A numeric operand as the contents of an 8-bit field. -/
def byteOf (a : Nat) : Byte := BitVec.ofNat 8 a

/-- The opcode of each command (R84). -/
def Instr.opcode : Instr → Byte
  | .nop => 0x00
  | .sreset => 0x01
  | .setver _ => 0x02
  | .setecl _ => 0x03
  | .rdreg _ => 0x04
  | .gfadd _ _ => 0x10
  | .gfmul _ _ => 0x11
  | .gfdiv _ _ => 0x12
  | .gfexp _ => 0x13
  | .gflog _ => 0x14
  | .rsinit _ => 0x20
  | .rsdata _ => 0x21
  | .rsrd _ => 0x22
  | .rsgen _ => 0x23
  | .mxinit => 0x30
  | .mxfind => 0x31
  | .mxtime => 0x32
  | .mxalign => 0x33
  | .mxrsv => 0x34
  | .mxdata => 0x35
  | .mxbuild => 0x36
  | .mskeval _ => 0x40
  | .msksel => 0x41
  | .mskforce _ => 0x42
  | .final => 0x43
  | .cwpush _ => 0x50
  | .cwrd _ => 0x51
  | .gridrd _ _ => 0x52

/-- The command word of a command. -/
def encode (i : Instr) : Word :=
  match i with
  | .nop => encodeZ i.opcode
  | .sreset => encodeZ i.opcode
  | .setver a => encodeB i.opcode (byteOf a)
  | .setecl a => encodeB i.opcode (byteOf a)
  | .rdreg a => encodeB i.opcode (byteOf a)
  | .gfadd a b => encodeBB i.opcode a b
  | .gfmul a b => encodeBB i.opcode a b
  | .gfdiv a b => encodeBB i.opcode a b
  | .gfexp a => encodeB i.opcode (byteOf a)
  | .gflog a => encodeB i.opcode a
  | .rsinit a => encodeB i.opcode (byteOf a)
  | .rsdata a => encodeB i.opcode a
  | .rsrd a => encodeB i.opcode (byteOf a)
  | .rsgen a => encodeB i.opcode (byteOf a)
  | .mxinit => encodeZ i.opcode
  | .mxfind => encodeZ i.opcode
  | .mxtime => encodeZ i.opcode
  | .mxalign => encodeZ i.opcode
  | .mxrsv => encodeZ i.opcode
  | .mxdata => encodeZ i.opcode
  | .mxbuild => encodeZ i.opcode
  | .mskeval a => encodeB i.opcode (byteOf a)
  | .msksel => encodeZ i.opcode
  | .mskforce a => encodeB i.opcode (byteOf a)
  | .final => encodeZ i.opcode
  | .cwpush a => encodeB i.opcode a
  | .cwrd h => encodeH i.opcode (BitVec.ofNat 16 h)
  | .gridrd a b => encodeBB i.opcode (byteOf a) (byteOf b)

/-! ## The opcode table as data (R82, R85) -/

/-- One row of the opcode table: a word `w` spells the row's command when `w & mask = match` (R82). -/
structure OpcodeRow where
  mnemonic : String
  mask : Word
  pattern : Word
  deriving DecidableEq, Repr

/-- The rows of formats `Z`, `B`, `BB` and `H`, with their masks (R85). -/
def rowZ (name : String) (op : Byte) : OpcodeRow := ⟨name, 0xFFFFFFFF, op ++ 0#24⟩
def rowB (name : String) (op : Byte) : OpcodeRow := ⟨name, 0xFFFFFF00, op ++ 0#24⟩
def rowBB (name : String) (op : Byte) : OpcodeRow := ⟨name, 0xFFFF0000, op ++ 0#24⟩
def rowH (name : String) (op : Byte) : OpcodeRow := ⟨name, 0xFFFF0000, op ++ 0#24⟩

/-- The 28 rows, in the table's order (R84). -/
def opcodeTable : List OpcodeRow :=
  [rowZ "NOP" 0x00, rowZ "SRESET" 0x01, rowB "SETVER" 0x02, rowB "SETECL" 0x03, rowB "RDREG" 0x04] ++
  [rowBB "GFADD" 0x10, rowBB "GFMUL" 0x11, rowBB "GFDIV" 0x12, rowB "GFEXP" 0x13, rowB "GFLOG" 0x14] ++
  [rowB "RSINIT" 0x20, rowB "RSDATA" 0x21, rowB "RSRD" 0x22, rowB "RSGEN" 0x23] ++
  [rowZ "MXINIT" 0x30, rowZ "MXFIND" 0x31, rowZ "MXTIME" 0x32, rowZ "MXALIGN" 0x33, rowZ "MXRSV" 0x34,
   rowZ "MXDATA" 0x35, rowZ "MXBUILD" 0x36] ++
  [rowB "MSKEVAL" 0x40, rowZ "MSKSEL" 0x41, rowB "MSKFORCE" 0x42, rowZ "FINAL" 0x43] ++
  [rowB "CWPUSH" 0x50, rowH "CWRD" 0x51, rowBB "GRIDRD" 0x52]

/-- `w & mask = match` for this row. -/
def OpcodeRow.spells (row : OpcodeRow) (w : Word) : Bool := w &&& row.mask == row.pattern

/-- The mnemonic of each command (R84). -/
def Instr.mnemonic : Instr → String
  | .nop => "NOP"
  | .sreset => "SRESET"
  | .setver _ => "SETVER"
  | .setecl _ => "SETECL"
  | .rdreg _ => "RDREG"
  | .gfadd _ _ => "GFADD"
  | .gfmul _ _ => "GFMUL"
  | .gfdiv _ _ => "GFDIV"
  | .gfexp _ => "GFEXP"
  | .gflog _ => "GFLOG"
  | .rsinit _ => "RSINIT"
  | .rsdata _ => "RSDATA"
  | .rsrd _ => "RSRD"
  | .rsgen _ => "RSGEN"
  | .mxinit => "MXINIT"
  | .mxfind => "MXFIND"
  | .mxtime => "MXTIME"
  | .mxalign => "MXALIGN"
  | .mxrsv => "MXRSV"
  | .mxdata => "MXDATA"
  | .mxbuild => "MXBUILD"
  | .mskeval _ => "MSKEVAL"
  | .msksel => "MSKSEL"
  | .mskforce _ => "MSKFORCE"
  | .final => "FINAL"
  | .cwpush _ => "CWPUSH"
  | .cwrd _ => "CWRD"
  | .gridrd _ _ => "GRIDRD"

/-! ## The host's view of the decoder -/

/-- The command the decoder reads from an instruction of `nbits` bits numbered as spec/opcode_table.json numbers
them. A command is one 32-bit word with bit 0 least significant (R10, R80), so the numbering is the word's own. -/
def decodeTableWord (nbits w : Nat) : Option Instr :=
  let v := w % 2 ^ nbits
  if v < 2 ^ 32 then decode (BitVec.ofNat 32 v) else none

end Sys2Proof
end

