-- ==== Sys2Proof/Machine/Memory.lean ====
section
/-! DEFINITION. The private arrays that are too large to be registers (20_memory.md R60): a list of (address, unit)
pairs in one canonical form. Every space is addressed in whole units (R61), so a read or a write moves one unit and
there is no byte order to decide. A memory whose unit is a byte is a list of `Host.Cell`. -/

namespace Sys2Proof.Machine

/-- Units of type `α` by address. What an unlisted address reads as is the argument `d` of each operation: one
value a space, `unwrittenCodeword` and `unwrittenCell` (Ops.lean). -/
abbrev Memory (α : Type) := List (Nat × α)

/-- The unit at address `a`. -/
def Memory.read {α : Type} (d : α) : Memory α → Nat → α
  | [], _ => d
  | (k, v) :: m, a => if k = a then v else Memory.read d m a

/-- The memory with the unit `v` at address `a`. Writing `d` unlists the address, so equal memories are equal lists. -/
def Memory.write {α : Type} [DecidableEq α] (d : α) : Memory α → Nat → α → Memory α
  | [], a, v => if v = d then [] else [(a, v)]
  | (k, w) :: m, a, v =>
    if a < k then (if v = d then (k, w) :: m else (a, v) :: (k, w) :: m)
    else if a = k then (if v = d then m else (a, v) :: m)
    else (k, w) :: Memory.write d m a v

/-- The canonical form, from a lower bound on the addresses: strictly rising, and no entry equal to `d`. -/
def Memory.wfFrom {α : Type} [DecidableEq α] (d : α) : Nat → Memory α → Bool
  | _, [] => true
  | lo, (k, v) :: m => decide (lo ≤ k) && !decide (v = d) && Memory.wfFrom d (k + 1) m

/-- The canonical form. -/
def Memory.wf {α : Type} [DecidableEq α] (d : α) (m : Memory α) : Bool := Memory.wfFrom d 0 m

/-- No address at or above `bound` is listed. -/
def Memory.below {α : Type} (bound : Nat) (m : Memory α) : Bool := m.all fun e => decide (e.1 < bound)

end Sys2Proof.Machine
end

