-- ==== Sys2Proof/Machine/State.lean ====
section
/-! DEFINITION. The architectural state of QRCORE (10_state.md R20) as plain data, its reset value
(10_state.md R51, 70_reset_and_hazards.md R250), and the reasons a step can stop. -/

namespace Sys2Proof.Machine

/-- The values `PHASE` holds (10_state.md R25). The values 9 to 14 are never held and have no constructor. -/
inductive Phase where
  | idle | alloc | finders | timing | aligned | reserved | placed | masked | final | error
  deriving DecidableEq, Repr

/-- The error names (60_exceptions.md R220). `unencodableInput` and `dataTooLarge` keep their codes and are never
raised (R222). -/
inductive ErrorName where
  | invalidParameter | unencodableInput | dataTooLarge | messageTooLong
  | illegalCommand | sequenceError | rangeError | gfDomainError
  deriving DecidableEq, Repr

/-- The ECC level (10_state.md R27), held in the 2 bits of `ECL`. -/
inductive Level where
  | l | m | q | h
  deriving DecidableEq, Repr

/-- A module state, the 2 bits of `ST[r][c]` (10_state.md R44). -/
inductive ModuleState where
  | light | dark | unset | reserved
  deriving DecidableEq, Repr

/-- One cell of the grid: its state `ST` and its function flag `FN` (10_state.md R44). -/
structure GridCell where
  st : ModuleState
  fn : Bool
  deriving DecidableEq, Repr

/-- What the host can do to QRCORE: "issue a command or assert reset" (00_scope.md R5). -/
inductive HostAction where
  /-- A command word on the command port (30_encoding.md R80). -/
  | command (w : Word)
  /-- The hardware reset input, between commands (70_reset_and_hazards.md R251). -/
  | reset
  deriving DecidableEq, Repr

/-- The reasons for a stop with a fault: none. QRCORE's own faults (60_exceptions.md R224) are effects after which
the machine goes on, and "No behaviour of QRCORE is undefined or unpredictable" (70_reset_and_hazards.md R262). -/
inductive Fault
  deriving DecidableEq, Repr

/-- The reasons for a refusal by the model. (A word refused in phase `ERROR`, 60_exceptions.md R225, is no such
refusal: it is a next state with a response.) -/
inductive Refusal where
  /-- An instruction without a meaning yet. Raised only by an arm of `exec`; safe. No arm raises it. -/
  | notModelled (mnemonic : String)
  deriving DecidableEq, Repr

/-- The state. The constant register `ID` (10_state.md R23) is supplied by the register read. -/
structure State where
  /-- `STATUS.PHASE` (R24, R25) -/
  phase : Phase
  /-- `STATUS.ERR`, `none` for code 0 (R24, 60_exceptions.md R220) -/
  err : Option ErrorName
  /-- `STATUS.EPHASE` (R24) -/
  ephase : Phase
  /-- `STATUS.ECLV` (R24) -/
  eclv : Bool
  /-- `STATUS.PENV` (R24) -/
  penv : BitVec 8
  /-- `VERSION` (R26) -/
  version : BitVec 6
  /-- `ECL` (R27) -/
  ecl : Level
  /-- `SIZE` (R26) -/
  size : BitVec 8
  /-- `CWLEN` (R22) -/
  cwlen : BitVec 12
  /-- `DCAP` (R22) -/
  dcap : BitVec 15
  /-- `NSYM` (R22) -/
  nsym : BitVec 5
  /-- `DLEN` (R22) -/
  dlen : BitVec 8
  /-- `MASK` (R28) -/
  mask : BitVec 3
  /-- `EINFO` (R30) -/
  einfo : Value
  /-- `PEN0` to `PEN7` (R29) -/
  pen : Vector Value 8
  /-- `PENSEL` (R29) -/
  pensel : BitVec 3
  /-- `PN1` (R29) -/
  pn1 : Value
  /-- `PN2` (R29) -/
  pn2 : Value
  /-- `PN3` (R29) -/
  pn3 : Value
  /-- `PN4` (R29) -/
  pn4 : Value
  /-- `DARKCNT` (R29) -/
  darkcnt : BitVec 15
  /-- `GEN[0..30]` (R40) -/
  gen : Vector Byte 31
  /-- `REM[0..29]` (R40) -/
  rem : Vector Byte 30
  /-- `CWBUF[0..3705]` (R42) -/
  cwbuf : List Host.Cell
  /-- The planes `ST` and `FN` (R44), by the address `256 * row + column` (log 9) -/
  grid : Memory GridCell
  /-- The host's next actions, the next one first: the model's own field (log 4) -/
  pending : List HostAction
  /-- The responses given so far, the newest first (00_scope.md R8): the model's own field (log 5) -/
  responses : List Word
  deriving DecidableEq, Repr

/-- The state right after power-on and hardware reset (R51, 70_reset_and_hazards.md R250). DESIGN CHOICE: the spec
leaves `GEN`, `REM`, `CWBUF`, `ST`, `FN` unspecified; the model takes zero and nothing listed (log 1, log 2). -/
def State.reset : State where
  phase := .idle
  err := none
  ephase := .idle
  eclv := false
  penv := 0
  version := 0
  ecl := .l
  size := 0
  cwlen := 0
  dcap := 0
  nsym := 0
  dlen := 0
  mask := 0
  einfo := 0
  pen := Vector.replicate 8 0
  pensel := 0
  pn1 := 0
  pn2 := 0
  pn3 := 0
  pn4 := 0
  darkcnt := 0
  gen := Vector.replicate 31 0
  rem := Vector.replicate 30 0
  cwbuf := []
  grid := []
  pending := []
  responses := []

end Sys2Proof.Machine
end

