-- ==== Sys2Proof/Machine/Operands.lean ====
section
/-! DEFINITION. The numberings that operands, registers and responses use: phases (10_state.md R25), error codes
(60_exceptions.md R220), ECC levels (10_state.md R27), module states (10_state.md R44). The operand forms of the
command word itself are in Decode.lean (30_encoding.md R81): every operand arrives as an unsigned integer. -/

namespace Sys2Proof.Machine

/-- The number of a phase (R25). -/
def Phase.code : Phase → Nat
  | .idle => 0
  | .alloc => 1
  | .finders => 2
  | .timing => 3
  | .aligned => 4
  | .reserved => 5
  | .placed => 6
  | .masked => 7
  | .final => 8
  | .error => 15

/-- The code of an error (R220). -/
def ErrorName.code : ErrorName → Nat
  | .invalidParameter => 1
  | .unencodableInput => 2
  | .dataTooLarge => 3
  | .messageTooLong => 4
  | .illegalCommand => 5
  | .sequenceError => 6
  | .rangeError => 7
  | .gfDomainError => 8

/-- What `ERR` holds: 0 when no fault is recorded (R220). -/
def errCode (e : Option ErrorName) : Nat :=
  match e with
  | none => 0
  | some e => e.code

/-- What `ECL` holds (R27): L, M, Q, H are 0, 1, 2, 3. -/
def Level.code : Level → Nat
  | .l => 0
  | .m => 1
  | .q => 2
  | .h => 3

/-- The level an operand of `SETECL` names, `none` above 3 (R27, 44_system.md R203). -/
def levelOf? : Nat → Option Level
  | 0 => some .l
  | 1 => some .m
  | 2 => some .q
  | 3 => some .h
  | _ => none

/-- The number of a module state (R44); bit 0 of `light` and `dark` is "true = dark". -/
def ModuleState.code : ModuleState → Nat
  | .light => 0
  | .dark => 1
  | .unset => 2
  | .reserved => 3

/-- The 3 bits `{FN, ST}` of a cell (44_system.md R207). -/
def GridCell.bits (c : GridCell) : BitVec 3 := BitVec.ofBool c.fn ++ BitVec.ofNat 2 c.st.code

/-- The state of a module that carries a bit: a 1 is dark (42_matrix.md R155, 43_mask.md R185). -/
def moduleOfBit (b : Bool) : ModuleState := if b then .dark else .light

/-- A register value as the value of a response, zero-extended (10_state.md R22, 30_encoding.md R86). -/
def valueOf {n : Nat} (v : BitVec n) : Value := v.setWidth 31

/-- A count or an index as the value of a response. -/
def valueOfNat (n : Nat) : Value := BitVec.ofNat 31 n

end Sys2Proof.Machine
end

