-- ==== Sys2Proof/Machine/Flags.lean ====
section
/-! DEFINITION. The flag-like state of QRCORE (10_state.md R31): `ECLV`, the bits of `PENV`, the packing of
`STATUS` (10_state.md R24), and bit 31 of a response, the `E` flag (30_encoding.md R86). There are no condition
codes. -/

namespace Sys2Proof.Machine

/-- `PENV` with bit `m` set (43_mask.md R182). -/
def penvSet (penv : BitVec 8) (m : Nat) : BitVec 8 := penv ||| (1#8 <<< m)

/-- `PENV` with every bit set (43_mask.md R183). -/
def penvAll : BitVec 8 := 0xFF

/-- `STATUS` (R24), zero-extended to 31 bits: `PENV` in 23:16, `ECLV` in 12, `EPHASE` in 11:8, `ERR` in 7:4,
`PHASE` in 3:0. -/
def State.status (s : State) : Value :=
  0#7 ++ s.penv ++ 0#3 ++ BitVec.ofBool s.eclv ++ BitVec.ofNat 4 s.ephase.code ++
    BitVec.ofNat 4 (errCode s.err) ++ BitVec.ofNat 4 s.phase.code

/-- The response of a command that succeeds (R86): `E = 0` and the value in bits 30:0. -/
def successWord (v : Value) : Word := 0#1 ++ v

/-- The response of a command that faults or is refused (R86): `E = 1` and the code in bits 3:0. -/
def errorWord (code : Nat) : Word := 0x80000000#32 ||| (BitVec.ofNat 4 code).setWidth 32

/-- "version and ECC level are fixed before bitstream assembly begins": what `MXINIT` and `MXBUILD` test
(42_matrix.md R141, R157). -/
def State.configured (s : State) : Bool := !decide (s.version = 0) && s.eclv

end Sys2Proof.Machine
end

