-- ==== Sys2Proof/Machine/Ops.lean ====
section
/-! DEFINITION. The named operations every meaning is built from: the response, raising a fault and the refusal in
phase `ERROR` (60_exceptions.md R224, R225), the phase check (R226), reset (70_reset_and_hazards.md R250), and the
reads and writes of the address spaces (20_memory.md R60). -/

namespace Sys2Proof.Machine

/-- What a command ends in. -/
abbrev Result := Host.Outcome State Fault Refusal

/-! ## Responses and faults -/

/-- `respond v`: the command succeeds with response value `v` (00_scope.md R11, 30_encoding.md R86). -/
def respond (v : Value) (s : State) : Result :=
  .next { s with responses := successWord v :: s.responses }

/-- `raise e` for the command word `w`, outside phase `ERROR` (60_exceptions.md R224): `ERR`, `EPHASE`, `EINFO`,
`PHASE` and the response, and nothing else. There is no handler, saved pc or mode to change. -/
def raise (e : ErrorName) (w : Word) (s : State) : Result :=
  .next { s with
    err := some e
    ephase := s.phase
    einfo := w.setWidth 31
    phase := .error
    responses := errorWord e.code :: s.responses }

/-- The refusal of a command in phase `ERROR` (R225): the recorded code, and no state change. -/
def refuse (s : State) : Result :=
  .next { s with responses := errorWord (errCode s.err) :: s.responses }

/-- The outcome of a word that would raise `e`: refused in phase `ERROR`, raised outside it (R225, R228 item 1). -/
def raiseOrRefuse (e : ErrorName) (w : Word) (s : State) : Result :=
  if s.phase = .error then refuse s else raise e w s

/-- The outcome of a word that spells no command (30_encoding.md R82; R228 items 1 to 3). -/
def illegalCommand (w : Word) (s : State) : Result := raiseOrRefuse .illegalCommand w s

/-- The way out of phase `ERROR`, which is also the start of a new request: every control register to its reset
value (44_system.md R201, 70_reset_and_hazards.md R250). DESIGN CHOICE: the arrays, unspecified after it, keep what
they hold (log 3). The host's queue and the responses given are not QRCORE's registers and stay. -/
def State.resetRegisters (s : State) : State :=
  { State.reset with
    gen := s.gen
    rem := s.rem
    cwbuf := s.cwbuf
    grid := s.grid
    pending := s.pending
    responses := s.responses }

/-! ## The phase check -/

/-- The phases in which a command is accepted (60_exceptions.md R226). -/
def accepted : Instr → Phase → Bool
  | .nop, _ => true
  | .sreset, _ => true
  | .rdreg _, _ => true
  | .setver _, p => p == .idle
  | .setecl _, p => p == .idle
  | .gfadd _ _, p => p != .error
  | .gfmul _ _, p => p != .error
  | .gfdiv _ _, p => p != .error
  | .gfexp _, p => p != .error
  | .gflog _, p => p != .error
  | .rsinit _, p => p != .error
  | .rsdata _, p => p != .error
  | .rsrd _, p => p != .error
  | .rsgen _, p => p != .error
  | .mxinit, p => p == .idle
  | .mxfind, p => p == .alloc
  | .mxtime, p => p == .finders
  | .mxalign, p => p == .timing
  | .mxrsv, p => p == .aligned
  | .mxdata, p => p == .reserved
  | .mxbuild, p => p == .idle
  | .mskeval _, p => p == .placed
  | .msksel, p => p == .placed
  | .mskforce _, p => p == .placed
  | .final, p => p == .masked
  | .cwpush _, p => decide (p.code ≤ 5)
  | .cwrd _, p => p != .error
  | .gridrd _ _, p => decide (1 ≤ p.code ∧ p.code ≤ 8)

/-- The checks every command but `NOP`, `SRESET` and `RDREG` shares, in the order of R228: the refusal in phase
`ERROR`, then the phase; then the command's own checks and effect, `body`. -/
def gated (i : Instr) (s : State) (body : Result) : Result :=
  if s.phase = .error then refuse s
  else if accepted i s.phase then body
  else raise .sequenceError (encode i) s

/-! ## The control registers (10_state.md R22) -/

/-- The constant of `ID`, "QRC1" (10_state.md R23). -/
def idValue : Value := 0x51524331

/-- `CR[n]`, zero-extended to 31 bits; `none` for a number that is no register (R22). -/
def State.controlRegister (s : State) : Nat → Option Value
  | 0x00 => some idValue
  | 0x01 => some s.status
  | 0x02 => some (valueOf s.version)
  | 0x03 => some (valueOfNat s.ecl.code)
  | 0x04 => some (valueOf s.size)
  | 0x05 => some (valueOf s.cwlen)
  | 0x06 => some (valueOf s.dcap)
  | 0x07 => some (valueOf s.nsym)
  | 0x08 => some (valueOf s.dlen)
  | 0x09 => some (valueOf s.mask)
  | 0x0A => some s.einfo
  | 0x10 => some s.pen[0]
  | 0x11 => some s.pen[1]
  | 0x12 => some s.pen[2]
  | 0x13 => some s.pen[3]
  | 0x14 => some s.pen[4]
  | 0x15 => some s.pen[5]
  | 0x16 => some s.pen[6]
  | 0x17 => some s.pen[7]
  | 0x18 => some (valueOf s.pensel)
  | 0x19 => some s.pn1
  | 0x1A => some s.pn2
  | 0x1B => some s.pn3
  | 0x1C => some s.pn4
  | 0x1D => some (valueOf s.darkcnt)
  | _ => none

/-! ## The RS unit's arrays (10_state.md R40) -/

/-- `GEN[k]`. -/
def State.genAt (s : State) (k : Nat) : Byte := s.gen[k]?.getD 0

/-- `REM[k]`. -/
def State.remAt (s : State) (k : Nat) : Byte := s.rem[k]?.getD 0

/-! ## The codeword buffer (10_state.md R42) -/

/-- What an entry that nothing has written reads as. DESIGN CHOICE (log 2): the spec leaves it unspecified. -/
def unwrittenCodeword : Byte := 0

/-- `CWBUF[k]`. -/
def State.codeword (s : State) (k : Nat) : Byte := Memory.read unwrittenCodeword s.cwbuf k

/-- `CWBUF[k] <- v`. -/
def State.setCodeword (s : State) (k : Nat) (v : Byte) : State :=
  { s with cwbuf := Memory.write unwrittenCodeword s.cwbuf k v }

/-! ## The grid (10_state.md R44) -/

/-- What a cell that nothing has written reads as. DESIGN CHOICE (log 2): the spec leaves it unspecified. -/
def unwrittenCell : GridCell := ⟨.unset, false⟩

/-- The address of cell `(r, c)`: the row and the column as the two bytes `GRIDRD` gives them (log 9). -/
def cellAddr (r c : Nat) : Nat := 256 * r + c

/-- The two planes `ST` and `FN`, a cell an entry. -/
abbrev Grid := Memory GridCell

/-- The cell `(r, c)` of a grid. -/
def gridAt (g : Grid) (r c : Nat) : GridCell := Memory.read unwrittenCell g (cellAddr r c)

/-- The cell `(r, c)` of the grid. -/
def State.cell (s : State) (r c : Nat) : GridCell := gridAt s.grid r c

/-- Write of the cell `(r, c)`, both planes. -/
def setCell (g : Grid) (r c : Nat) (v : GridCell) : Grid := Memory.write unwrittenCell g (cellAddr r c) v

/-- `setf(r, c, v)`: `ST[r][c] <- v ; FN[r][c] <- 1` (42_matrix.md R140). -/
def setf (g : Grid) (r c : Nat) (v : ModuleState) : Grid := setCell g r c ⟨v, true⟩

/-- `ST[r][c] <- v`; `FN` keeps its value. -/
def setSt (g : Grid) (r c : Nat) (v : ModuleState) : Grid := setCell g r c ⟨v, (gridAt g r c).fn⟩

/-- A cell position, row then column. -/
abbrev Pos := Nat × Nat

/-- `setf` for each of a list of cells, in order. -/
def setfAll (g : Grid) (cells : List (Pos × ModuleState)) : Grid :=
  cells.foldl (fun h e => setf h e.1.1 e.1.2 e.2) g

/-- `ST[r][c] <- v` for each of a list of cells, in order. -/
def setStAll (g : Grid) (cells : List (Pos × ModuleState)) : Grid :=
  cells.foldl (fun h e => setSt h e.1.1 e.1.2 e.2) g

/-- The cells `(r, c)` with `r, c < n`, row by row. -/
def allCells (n : Nat) : List Pos :=
  (List.range n).flatMap fun r => (List.range n).map fun c => (r, c)

end Sys2Proof.Machine
end

