-- ==== Sys2Proof/Machine/Matrix.lean ====
section
/-! DEFINITION. The matrix builder (42_matrix.md R140 to R159). `n` is `SIZE`. -/

namespace Sys2Proof.Machine

/-! ## Finder patterns and separators (R142, R143) -/

/-- The integers `lo .. hi` of a closed loop range (00_scope.md R11). -/
def intRange (lo hi : Int) : List Int := (List.range (hi - lo + 1).toNat).map fun k => lo + (k : Int)

/-- `max(|x|, |y|)`. -/
def ringDist (x y : Int) : Nat := max x.natAbs y.natAbs

/-- The colour of the cell at offset `(dr, dc)` from a finder's origin: the 7 by 7 pattern, else the separator. -/
def finderColour (dr dc : Int) : ModuleState :=
  if 0 ≤ dr ∧ dr ≤ 6 ∧ 0 ≤ dc ∧ dc ≤ 6 then
    if ringDist (dr - 3) (dc - 3) = 2 then .light else .dark
  else .light

/-- The cells of one finder and its separator, those inside the grid. -/
def finderCells (n : Nat) (r0 c0 : Int) : List (Pos × ModuleState) :=
  (intRange (-1) 7).flatMap fun dr => (intRange (-1) 7).filterMap fun dc =>
    let r := r0 + dr
    let c := c0 + dc
    if 0 ≤ r ∧ r < n ∧ 0 ≤ c ∧ c < n then some ((r.toNat, c.toNat), finderColour dr dc) else none

/-- The three finders, in the order of R143. -/
def allFinderCells (n : Nat) : List (Pos × ModuleState) :=
  finderCells n 0 0 ++ finderCells n 0 ((n : Int) - 7) ++ finderCells n ((n : Int) - 7) 0

/-! ## Timing patterns (R145, R146) -/

/-- Dark at even index. -/
def timingColour (k : Nat) : ModuleState := if k % 2 = 0 then .dark else .light

/-- The cells `(6, k)` and `(k, 6)` for `k` in `8 .. n-9`. -/
def timingCells (n : Nat) : List (Pos × ModuleState) :=
  (List.range' 8 (n - 16)).flatMap fun k => [((6, k), timingColour k), ((k, 6), timingColour k)]

/-! ## Alignment patterns (R147, R148, R149) -/

/-- The 5 by 5 pattern about a centre. -/
def alignPattern (r c : Nat) : List (Pos × ModuleState) :=
  (intRange (-2) 2).flatMap fun dr => (intRange (-2) 2).map fun dc =>
    ((((r : Int) + dr).toNat, ((c : Int) + dc).toNat), if ringDist dr dc = 1 then .light else .dark)

/-- The centre is one of the three that would overlap a finder. -/
def alignSkipped (last r c : Nat) : Bool :=
  (r, c) == (6, 6) || (r, c) == (6, last) || (r, c) == (last, 6)

/-- Every alignment pattern of a version. -/
def alignCells (version : Nat) : List (Pos × ModuleState) :=
  let centres := alignCentres version
  let last := centres.foldl max 0
  centres.flatMap fun r => centres.flatMap fun c => if alignSkipped last r c then [] else alignPattern r c

/-! ## Reserved areas (R150 to R153) -/

/-- `F1(i)` (R151). -/
def formatCell1 (i : Nat) : Pos :=
  if i ≤ 5 then (i, 8) else if i = 6 then (7, 8) else if i = 7 then (8, 8) else if i = 8 then (8, 7) else (8, 14 - i)

/-- `F2(i)` (R151). -/
def formatCell2 (n i : Nat) : Pos := if i ≤ 7 then (8, n - 1 - i) else (n - 15 + i, 8)

/-- `V1(i)` (R152). -/
def versionCell1 (n i : Nat) : Pos := (i / 3, n - 11 + i % 3)

/-- `V2(i)` (R152). -/
def versionCell2 (n i : Nat) : Pos := (n - 11 + i % 3, i / 3)

/-- The cells `MXRSV` writes (R150), the always dark module among them (R153). -/
def reservedCells (version n : Nat) : List (Pos × ModuleState) :=
  ((List.range 15).flatMap fun i => [(formatCell1 i, .reserved), (formatCell2 n i, .reserved)]) ++
  [((n - 8, 8), .dark)] ++
  (if Config.verInfoMin ≤ version then
    (List.range 18).flatMap fun i => [(versionCell1 n i, .reserved), (versionCell2 n i, .reserved)]
  else [])

/-- The number of cells `(r, c)`, `r, c < n`, with `FN = 0`. -/
def countData (n : Nat) (g : Grid) : Nat := (allCells n).countP fun p => !(gridAt g p.1 p.2).fn

/-! ## Data placement (R154, R155) -/

/-- The right-hand columns of the two-column strips, from `right` downwards, stepping over the timing column. The
first argument bounds the number of strips. -/
def stripsFrom : Nat → Nat → List Nat
  | 0, _ => []
  | bound + 1, right =>
    if 1 ≤ right then
      let col := if right = 6 then 5 else right
      col :: stripsFrom bound (col - 2)
    else []

/-- The strips of a grid of side `n`. -/
def strips (n : Nat) : List Nat := stripsFrom n (n - 1)

/-- The cells of strip `k`, right column first in each row; even strips go up (R154). -/
def stripCells (n right k : Nat) : List Pos :=
  (List.range n).flatMap fun t =>
    let r := if k % 2 = 0 then n - 1 - t else t
    [(r, right), (r, right - 1)]

/-- Every cell of every strip, in the order of the zigzag. -/
def zigzag (n : Nat) : List Pos := (strips n).zipIdx.flatMap fun e => stripCells n e.1 e.2

/-- `PATH` (R154): the data cells in that order. -/
def path (n : Nat) (g : Grid) : List Pos := (zigzag n).filter fun p => !(gridAt g p.1 p.2).fn

/-- The state `MXDATA` gives the `k`-th cell of `PATH` (R155): the codeword's bit, most significant first
(20_memory.md R62), else light. -/
def dataModule (s : State) (k : Nat) : ModuleState :=
  if k < 8 * s.cwlen.toNat then moduleOfBit ((s.codeword (k / 8)).getLsbD (7 - k % 8)) else .light

/-- The cells `MXDATA` writes: `PATH[0 .. DCAP-1]`. -/
def dataCells (s : State) : List (Pos × ModuleState) :=
  ((path s.size.toNat s.grid).take s.dcap.toNat).zipIdx.map fun e => (e.1, dataModule s e.2)

/-! ## The state changes of the six commands -/

/-- `MXINIT` (R141): every cell of the grid `Unset`, `FN = 0`. -/
def allocGrid (s : State) : State :=
  { s with
    grid := (allCells s.size.toNat).foldl (fun g p => setCell g p.1 p.2 ⟨.unset, false⟩) s.grid
    phase := .alloc }

/-- `MXFIND` (R143). -/
def placeFinders (s : State) : State :=
  { s with grid := setfAll s.grid (allFinderCells s.size.toNat), phase := .finders }

/-- `MXTIME` (R146). -/
def placeTiming (s : State) : State :=
  { s with grid := setfAll s.grid (timingCells s.size.toNat), phase := .timing }

/-- `MXALIGN` (R147). -/
def placeAlignment (s : State) : State :=
  { s with grid := setfAll s.grid (alignCells s.version.toNat), phase := .aligned }

/-- `MXRSV` (R150). -/
def reserveAreas (s : State) : State :=
  let g := setfAll s.grid (reservedCells s.version.toNat s.size.toNat)
  { s with grid := g, dcap := BitVec.ofNat 15 (countData s.size.toNat g), phase := .reserved }

/-- `MXDATA` (R155). -/
def placeData (s : State) : State :=
  { s with grid := setStAll s.grid (dataCells s), phase := .placed }

/-- `MXINIT`, `MXFIND`, `MXTIME`, `MXALIGN`, `MXRSV` in order: the first five steps of `MXBUILD` (R157). -/
def buildPatterns (s : State) : State :=
  reserveAreas (placeAlignment (placeTiming (placeFinders (allocGrid s))))

/-! ## The commands -/

/-- `MXINIT` (R141). -/
def execMxinit (s : State) : Result :=
  gated .mxinit s <|
    if s.configured then respond 0 (allocGrid s) else raise .sequenceError (encode .mxinit) s

/-- `MXFIND` (R143). -/
def execMxfind (s : State) : Result := gated .mxfind s <| respond 0 (placeFinders s)

/-- `MXTIME` (R146). -/
def execMxtime (s : State) : Result := gated .mxtime s <| respond 0 (placeTiming s)

/-- `MXALIGN` (R147). -/
def execMxalign (s : State) : Result := gated .mxalign s <| respond 0 (placeAlignment s)

/-- `MXRSV` (R150): responds the new `DCAP`. -/
def execMxrsv (s : State) : Result :=
  gated .mxrsv s <|
    let t := reserveAreas s
    respond (valueOf t.dcap) t

/-- `MXDATA` (R155). -/
def execMxdata (s : State) : Result :=
  gated .mxdata s <|
    if s.dcap.toNat < 8 * s.cwlen.toNat then raise .rangeError (encode .mxdata) s
    else respond 0 (placeData s)

/-- `MXBUILD` (R157): both checks before any state changes. The number of data cells of the version is the `DCAP`
that its first five steps give (log 12). -/
def execMxbuild (s : State) : Result :=
  gated .mxbuild s <|
    if s.configured then
      let t := buildPatterns s
      if t.dcap.toNat < 8 * s.cwlen.toNat then raise .rangeError (encode .mxbuild) s
      else respond (valueOf t.dcap) (placeData t)
    else raise .sequenceError (encode .mxbuild) s

end Sys2Proof.Machine
end

