-- ==== Sys2Proof/Machine/Mask.lean ====
section
/-! DEFINITION. The mask scorer and selector, and the format and version information (43_mask.md R170 to R190). -/

namespace Sys2Proof.Machine

/-! ## Masks and candidates (R170 to R172) -/

/-- `maskf(m, r, c)` (R170). There is no mask above 7; the commands check the index. -/
def maskFormula (m r c : Nat) : Bool :=
  match m with
  | 0 => (r + c) % 2 == 0
  | 1 => r % 2 == 0
  | 2 => c % 3 == 0
  | 3 => (r + c) % 3 == 0
  | 4 => (r / 2 + c / 3) % 2 == 0
  | 5 => (r * c) % 2 + (r * c) % 3 == 0
  | 6 => ((r * c) % 2 + (r * c) % 3) % 2 == 0
  | 7 => ((r + c) % 2 + (r * c) % 3) % 2 == 0
  | _ => false

/-- A colour plane: the rows of a candidate, `true` for dark. -/
abbrev Plane := List (List Bool)

/-- The cells of the grid, row by row. -/
def gridRows (n : Nat) (g : Grid) : List (List GridCell) :=
  (List.range n).map fun r => (List.range n).map fun c => gridAt g r c

/-- The colour of cell `(r, c)` in the candidate of mask `m` (R172); `Light` and `Reserved` both give light. -/
def candidateColour (m r c : Nat) (x : GridCell) : Bool :=
  let base := x.st == .dark
  if !x.fn && maskFormula m r c then !base else base

/-- The candidate of mask `m` (R172). -/
def candidate (m : Nat) (rows : List (List GridCell)) : Plane :=
  rows.zipIdx.map fun row => row.1.zipIdx.map fun x => candidateColour m row.2 x.2 x.1

/-! ## The four penalty rules (R173 to R178) -/

/-- The columns of a plane of side `n`. -/
def planeColumns (n : Nat) (p : Plane) : Plane :=
  (List.range n).map fun c => p.map fun row => row.getD c false

/-- The lines of a plane: its rows and its columns (R173). -/
def planeLines (n : Nat) (p : Plane) : Plane := p ++ planeColumns n p

/-- The score of one run (R174). -/
def runScore (len : Nat) : Nat := if 5 ≤ len then 3 + (len - 5) else 0

/-- The scores of the runs of a line, inside a run of colour `x` and length `len` so far. -/
def runScoresFrom (x : Bool) (len : Nat) : List Bool → Nat
  | [] => runScore len
  | y :: ys => if y = x then runScoresFrom x (len + 1) ys else runScore len + runScoresFrom y 1 ys

/-- N1 of one line (R174). -/
def lineN1 : List Bool → Nat
  | [] => 0
  | x :: xs => runScoresFrom x 1 xs

/-- N2 of two adjacent rows (R175): 3 for each uniform 2 by 2 position. -/
def rowPairN2 : List Bool → List Bool → Nat
  | a :: b :: xs, c :: d :: ys => (if a = b ∧ a = c ∧ a = d then 3 else 0) + rowPairN2 (b :: xs) (d :: ys)
  | _, _ => 0

/-- N2 of a plane (R175). -/
def planeN2 : Plane → Nat
  | x :: y :: rest => rowPairN2 x y + planeN2 (y :: rest)
  | _ => 0

/-- `P1` and `P2` (R176). -/
def finderLike1 : List Bool := [true, false, true, true, true, false, true, false, false, false, false]
def finderLike2 : List Bool := [false, false, false, false, true, false, true, true, true, false, true]

/-- N3 of one line (R176): 40 for each start position whose 11 bits equal `P1` or `P2`. A window that would leave
the line is shorter than 11 bits and equals neither. -/
def lineN3 : List Bool → Nat
  | [] => 0
  | x :: xs =>
    (if (x :: xs).take 11 = finderLike1 ∨ (x :: xs).take 11 = finderLike2 then 40 else 0) + lineN3 xs

/-- The number of dark cells of a plane (R177). -/
def planeDark (p : Plane) : Nat := (p.map fun row => row.countP id).sum

/-- N4 (R177), from the number of dark cells and of all cells. -/
def ratioN4 (dark total : Nat) : Nat := 10 * (((20 * dark : Int) - 10 * total).natAbs / total)

/-- The four rule scores of a candidate and its dark count. -/
structure Score where
  n1 : Nat
  n2 : Nat
  n3 : Nat
  n4 : Nat
  dark : Nat
  deriving DecidableEq, Repr

/-- The total penalty (R178). -/
def Score.total (x : Score) : Nat := x.n1 + x.n2 + x.n3 + x.n4

/-- The scores of a plane of side `n`. -/
def scorePlane (n : Nat) (p : Plane) : Score where
  n1 := ((planeLines n p).map lineN1).sum
  n2 := planeN2 p
  n3 := ((planeLines n p).map lineN3).sum
  n4 := ratioN4 (planeDark p) (n * n)
  dark := planeDark p

/-- The score of the candidate of mask `m` on the grid of a state. -/
def maskScore (s : State) (m : Nat) : Score :=
  scorePlane s.size.toNat (candidate m (gridRows s.size.toNat s.grid))

/-- The least mask whose total is the minimum (R179). -/
def leastMin (totals : List Nat) : Nat := totals.idxOf (totals.min?.getD 0)

/-! ## Applying a mask (R180) -/

/-- The flip of a data cell (R171). -/
def flipModule (x : ModuleState) : ModuleState := if x = .dark then .light else .dark

/-- The cells mask `m` flips, with their new states. -/
def maskFlips (m n : Nat) (g : Grid) : List (Pos × ModuleState) :=
  (allCells n).filterMap fun p =>
    let x := gridAt g p.1 p.2
    if !x.fn && maskFormula m p.1 p.2 then some (p, flipModule x.st) else none

/-- The grid with mask `m` applied. -/
def applyMask (m n : Nat) (g : Grid) : Grid := setStAll g (maskFlips m n g)

/-! ## The BCH-protected words (R186, R188) -/

/-- The level indicator (R186), which is not the level's number. -/
def levelIndicator : Level → BitVec 2
  | .l => 0b01
  | .m => 0b00
  | .q => 0b11
  | .h => 0b10

/-- One pass of a BCH remainder loop of width `w`: the shifted-out bit decides the exclusive or. -/
def bchStep {w : Nat} (poly rem : BitVec w) : BitVec w := (rem <<< 1) ^^^ (if rem.msb then poly else 0)

/-- A BCH remainder after `k` passes. -/
def bchRemainder {w : Nat} (poly : BitVec w) : Nat → BitVec w → BitVec w
  | 0, rem => rem
  | k + 1, rem => bchRemainder poly k (bchStep poly rem)

/-- `fmt15(ecl, mask)` (R186). -/
def formatWord (level : Level) (mask : BitVec 3) : BitVec 15 :=
  let data : BitVec 5 := levelIndicator level ++ mask
  (data ++ bchRemainder ((0x537#11).setWidth 10) 10 (data.setWidth 10)) ^^^ 0x5412#15

/-- `ver18(v)` (R188). -/
def versionWord (v : BitVec 6) : BitVec 18 :=
  v ++ bchRemainder ((0x1F25#13).setWidth 12) 12 (v.setWidth 12)

/-! ## The state changes -/

/-- The breakdown registers take the scores of candidate `m` (R182, R183). -/
def writeBreakdown (m : Nat) (x : Score) (s : State) : State :=
  { s with
    pensel := BitVec.ofNat 3 m
    pn1 := valueOfNat x.n1
    pn2 := valueOfNat x.n2
    pn3 := valueOfNat x.n3
    pn4 := valueOfNat x.n4
    darkcnt := BitVec.ofNat 15 x.dark }

/-- `MASK <- m`, the mask applied, `PHASE <- MASKED` (R183, R184). -/
def chooseMask (m : Nat) (s : State) : State :=
  { s with mask := BitVec.ofNat 3 m, grid := applyMask m s.size.toNat s.grid, phase := .masked }

/-- The cells `FINAL` writes (R185): the format word, and the version word from version 7 on. -/
def informationCells (s : State) : List (Pos × ModuleState) :=
  let n := s.size.toNat
  let f := formatWord s.ecl s.mask
  let w := versionWord s.version
  ((List.range 15).flatMap fun i =>
    [(formatCell1 i, moduleOfBit (f.getLsbD i)), (formatCell2 n i, moduleOfBit (f.getLsbD i))]) ++
  (if Config.verInfoMin ≤ s.version.toNat then
    (List.range 18).flatMap fun i =>
      [(versionCell1 n i, moduleOfBit (w.getLsbD i)), (versionCell2 n i, moduleOfBit (w.getLsbD i))]
  else [])

/-! ## The commands -/

/-- `MSKEVAL a` (R182): the grid and the phase are not changed. -/
def execMskeval (a : Nat) (s : State) : Result :=
  gated (.mskeval a) s <|
    if Config.maskMax < a then raise .invalidParameter (encode (.mskeval a)) s
    else
      let x := maskScore s a
      let v := valueOfNat x.total
      respond v { writeBreakdown a x s with pen := s.pen.setIfInBounds a v, penv := penvSet s.penv a }

/-- `MSKSEL` (R183): all eight candidates are scored from the grid before it is written. -/
def execMsksel (s : State) : Result :=
  gated .msksel s <|
    let scores := (List.range 8).map (maskScore s)
    let w := leastMin (scores.map Score.total)
    let t := { writeBreakdown w (maskScore s w) s with
      pen := Vector.ofFn fun m : Fin 8 => valueOfNat (maskScore s m.val).total
      penv := penvAll }
    respond (valueOfNat w) (chooseMask w t)

/-- `MSKFORCE a` (R184): no penalty is computed. -/
def execMskforce (a : Nat) (s : State) : Result :=
  gated (.mskforce a) s <|
    if Config.maskMax < a then raise .invalidParameter (encode (.mskforce a)) s
    else respond (valueOfNat a) (chooseMask a s)

/-- `FINAL` (R185): responds the format word. -/
def execFinal (s : State) : Result :=
  gated .final s <|
    respond (valueOf (formatWord s.ecl s.mask))
      { s with grid := setStAll s.grid (informationCells s), phase := .final }

end Sys2Proof.Machine
end

