-- ==== Sys2Proof/Machine/Gf.lean ====
section
/-! DEFINITION. The GF(256) engine (40_gf.md R100 to R109). -/

namespace Sys2Proof.Machine

/-! ## The arithmetic (R104) -/

/-- `gf_add(a, b)`, addition and subtraction. -/
def gfAdd (a b : Byte) : Byte := a ^^^ b

/-- `gf_mul(a, b)`: D0's `multiply(a,b)`. -/
def gfMul (a b : Byte) : Byte :=
  if a = 0 ∨ b = 0 then 0 else gfExp (((gfLog a).toNat + (gfLog b).toNat) % 255)

/-- `gf_div(a, b)` for `b ≠ 0`; `GFDIV` faults on `b = 0` before it is reached (R107). -/
def gfDiv (a b : Byte) : Byte :=
  if a = 0 then 0 else gfExp (((gfLog a).toNat + 255 - (gfLog b).toNat) % 255)

/-! ## The commands -/

/-- `GFADD a, b` (R105). -/
def execGfadd (a b : Byte) (s : State) : Result :=
  gated (.gfadd a b) s <| respond (valueOf (gfAdd a b)) s

/-- `GFMUL a, b` (R106). -/
def execGfmul (a b : Byte) (s : State) : Result :=
  gated (.gfmul a b) s <| respond (valueOf (gfMul a b)) s

/-- `GFDIV a, b` (R107): the divisor 0 faults whatever the dividend is. -/
def execGfdiv (a b : Byte) (s : State) : Result :=
  gated (.gfdiv a b) s <|
    if b = 0 then raise .gfDomainError (encode (.gfdiv a b)) s
    else respond (valueOf (gfDiv a b)) s

/-- `GFEXP a` (R108). -/
def execGfexp (a : Nat) (s : State) : Result :=
  gated (.gfexp a) s <| respond (valueOf (gfExp a)) s

/-- `GFLOG a` (R109): 0 has no logarithm. -/
def execGflog (a : Byte) (s : State) : Result :=
  gated (.gflog a) s <|
    if a = 0 then raise .gfDomainError (encode (.gflog a)) s
    else respond (valueOf (gfLog a)) s

end Sys2Proof.Machine
end

