-- ==== Sys2Proof/Machine/Rs.lean ====
section
/-! DEFINITION. The Reed-Solomon encoder (41_rs.md R120 to R129), streaming form. -/

namespace Sys2Proof.Machine

/-! ## The generator polynomial (R121), coefficients highest degree first -/

/-- One pass of the loop over `i`: `g` times `(x + 2^i)`. Entry `k` of the product is `g[k] ^ g[k-1] * 2^i`. -/
def genTimesRoot (g : List Byte) (i : Nat) : List Byte :=
  List.zipWith (fun x y => x ^^^ y) (g ++ [0]) (0 :: g.map fun c => gfMul c (gfExp i))

/-- `gen_poly(nsym)`: the product of the factors for `i = 0, ..., nsym-1`. -/
def genPoly (nsym : Nat) : List Byte := (List.range nsym).foldl genTimesRoot [1]

/-! ## One data codeword (R125) -/

/-- `REM` after the shift towards index 0: entry `NSYM-1` becomes 0, entries from `NSYM` on are not touched. -/
def remShifted (nsym : Nat) (rem : Nat → Byte) (k : Nat) : Byte :=
  if k + 1 < nsym then rem (k + 1) else if k + 1 = nsym then 0 else rem k

/-- `REM` after `RSDATA a`, from the values before it. -/
def remAfter (s : State) (a : Byte) : Vector Byte 30 :=
  let f := a ^^^ s.remAt 0
  Vector.ofFn fun k : Fin 30 =>
    let shifted := remShifted s.nsym.toNat s.remAt k.val
    if k.val < s.nsym.toNat then shifted ^^^ gfMul (s.genAt (k.val + 1)) f else shifted

/-! ## The commands -/

/-- `RSINIT a` (R124). -/
def execRsinit (a : Nat) (s : State) : Result :=
  gated (.rsinit a) s <|
    if a < 1 ∨ Config.nsymMax < a then raise .invalidParameter (encode (.rsinit a)) s
    else
      let g := genPoly a
      respond 0 { s with
        nsym := BitVec.ofNat 5 a
        dlen := 0
        gen := Vector.ofFn fun k : Fin 31 => if k.val ≤ a then g.getD k.val 0 else 0
        rem := Vector.replicate 30 0 }

/-- `RSDATA a` (R125). -/
def execRsdata (a : Byte) (s : State) : Result :=
  gated (.rsdata a) s <|
    if s.nsym = 0 then raise .sequenceError (encode (.rsdata a)) s
    else if Config.rsNMax < s.dlen.toNat + 1 + s.nsym.toNat then raise .messageTooLong (encode (.rsdata a)) s
    else
      let t := { s with rem := remAfter s a, dlen := BitVec.ofNat 8 (s.dlen.toNat + 1) }
      respond (valueOf t.dlen) t

/-- `RSRD a` (R126). -/
def execRsrd (a : Nat) (s : State) : Result :=
  gated (.rsrd a) s <|
    if s.nsym = 0 then raise .sequenceError (encode (.rsrd a)) s
    else if s.nsym.toNat ≤ a then raise .rangeError (encode (.rsrd a)) s
    else respond (valueOf (s.remAt a)) s

/-- `RSGEN a` (R127). -/
def execRsgen (a : Nat) (s : State) : Result :=
  gated (.rsgen a) s <|
    if s.nsym = 0 then raise .sequenceError (encode (.rsgen a)) s
    else if s.nsym.toNat < a then raise .rangeError (encode (.rsgen a)) s
    else respond (valueOf (s.genAt a)) s

end Sys2Proof.Machine
end

