-- ==== Sys2Proof/Machine/System.lean ====
section
/-! DEFINITION. The system, configuration and access commands (44_system.md R200 to R207). -/

namespace Sys2Proof.Machine

/-- `NOP` (R200): accepted in every phase. -/
def execNop (s : State) : Result := respond 0 s

/-- `SRESET` (R201): accepted in every phase; every control register to its reset value. -/
def execSreset (s : State) : Result := respond 0 s.resetRegisters

/-- `SETVER a` (R202). -/
def execSetver (a : Nat) (s : State) : Result :=
  gated (.setver a) s <|
    if a < Config.verMin ∨ Config.verMax < a then raise .invalidParameter (encode (.setver a)) s
    else
      let t := { s with version := BitVec.ofNat 6 a, size := BitVec.ofNat 8 (4 * a + 17) }
      respond (valueOf t.size) t

/-- `SETECL a` (R203). -/
def execSetecl (a : Nat) (s : State) : Result :=
  gated (.setecl a) s <|
    match levelOf? a with
    | none => raise .invalidParameter (encode (.setecl a)) s
    | some level => respond 0 { s with ecl := level, eclv := true }

/-- `RDREG a` (R204): accepted in every phase; an undefined number is refused in phase `ERROR` (R225). -/
def execRdreg (a : Nat) (s : State) : Result :=
  match s.controlRegister a with
  | none => raiseOrRefuse .rangeError (encode (.rdreg a)) s
  | some v => respond v s

/-- `CWPUSH a` (R205): the effective address is `CWLEN`, post-incremented. -/
def execCwpush (a : Byte) (s : State) : Result :=
  gated (.cwpush a) s <|
    if s.cwlen.toNat = Config.cwMax then raise .rangeError (encode (.cwpush a)) s
    else
      let t := { s.setCodeword s.cwlen.toNat a with cwlen := BitVec.ofNat 12 (s.cwlen.toNat + 1) }
      respond (valueOf t.cwlen) t

/-- `CWRD h` (R206). -/
def execCwrd (h : Nat) (s : State) : Result :=
  gated (.cwrd h) s <|
    if s.cwlen.toNat ≤ h then raise .rangeError (encode (.cwrd h)) s
    else respond (valueOf (s.codeword h)) s

/-- `GRIDRD a, b` (R207): `{FN, ST}` of the cell. -/
def execGridrd (a b : Nat) (s : State) : Result :=
  gated (.gridrd a b) s <|
    if s.size.toNat ≤ a ∨ s.size.toNat ≤ b then raise .rangeError (encode (.gridrd a b)) s
    else respond (valueOf (s.cell a b).bits) s

end Sys2Proof.Machine
end

