-- ==== Sys2Proof/Machine/Dispatch.lean ====
section
/-! DEFINITION. The dispatch: one arm a constructor of `Instr`, each one direct call of its meaning. -/

namespace Sys2Proof.Machine

def exec (i : Instr) (s : State) : Host.Outcome State Fault Refusal :=
  match i with
  -- system and configuration (44_system.md)
  | .nop => Sys2Proof.Machine.execNop s
  | .sreset => Sys2Proof.Machine.execSreset s
  | .setver a => Sys2Proof.Machine.execSetver a s
  | .setecl a => Sys2Proof.Machine.execSetecl a s
  | .rdreg a => Sys2Proof.Machine.execRdreg a s
  -- GF(256) engine (40_gf.md)
  | .gfadd a b => Sys2Proof.Machine.execGfadd a b s
  | .gfmul a b => Sys2Proof.Machine.execGfmul a b s
  | .gfdiv a b => Sys2Proof.Machine.execGfdiv a b s
  | .gfexp a => Sys2Proof.Machine.execGfexp a s
  | .gflog a => Sys2Proof.Machine.execGflog a s
  -- Reed-Solomon encoder (41_rs.md)
  | .rsinit a => Sys2Proof.Machine.execRsinit a s
  | .rsdata a => Sys2Proof.Machine.execRsdata a s
  | .rsrd a => Sys2Proof.Machine.execRsrd a s
  | .rsgen a => Sys2Proof.Machine.execRsgen a s
  -- matrix builder (42_matrix.md)
  | .mxinit => Sys2Proof.Machine.execMxinit s
  | .mxfind => Sys2Proof.Machine.execMxfind s
  | .mxtime => Sys2Proof.Machine.execMxtime s
  | .mxalign => Sys2Proof.Machine.execMxalign s
  | .mxrsv => Sys2Proof.Machine.execMxrsv s
  | .mxdata => Sys2Proof.Machine.execMxdata s
  | .mxbuild => Sys2Proof.Machine.execMxbuild s
  -- mask scorer and selector (43_mask.md)
  | .mskeval a => Sys2Proof.Machine.execMskeval a s
  | .msksel => Sys2Proof.Machine.execMsksel s
  | .mskforce a => Sys2Proof.Machine.execMskforce a s
  | .final => Sys2Proof.Machine.execFinal s
  -- stores and loads (44_system.md)
  | .cwpush a => Sys2Proof.Machine.execCwpush a s
  | .cwrd h => Sys2Proof.Machine.execCwrd h s
  | .gridrd a b => Sys2Proof.Machine.execGridrd a b s

end Sys2Proof.Machine
end

