-- ==== Sys2Proof/Machine/Step.lean ====
section
/-! DEFINITION. One step: QRCORE takes the host's next action (00_scope.md R5, R7; 60_exceptions.md R228). -/

namespace Sys2Proof.Machine

/-- A command word is decoded and executed to completion, or is illegal; a reset between commands resets and gives
no response (70_reset_and_hazards.md R251); with nothing pending QRCORE does nothing (00_scope.md R8; log 4). -/
def step (s : State) : Host.Outcome State Fault Refusal :=
  match s.pending with
  | [] => .next s
  | .reset :: rest => .next { s with pending := rest }.resetRegisters
  | .command w :: rest =>
    let t := { s with pending := rest }
    match decode w with
    | none => illegalCommand w t
    | some i => exec i t

/-- The state in which the host's next action is the command word `w` (its bits at and above `nbits` zero): QRCORE
fetches nothing (10_state.md R21), it takes the word at its command port (log 4). -/
def State.withFetchWord (s : State) (nbits w : Nat) : State :=
  { s with pending := .command (BitVec.ofNat 32 (w % 2 ^ nbits)) :: s.pending }

end Sys2Proof.Machine
end

