-- ==== Sys2Proof/Safety.lean ====
section
/-! DEFINITION. What counts as a safe state (the invariants of the model), and the forms of the spec that the
statements compare the machine with: its tables, its buffer form of the encoder, its cell-by-cell descriptions. -/

namespace Sys2Proof.Machine

/-! ## Runs of commands -/

/-- The commands executed one after the other, each completely before the next (20_memory.md R69). -/
def execAll : List Instr → State → Result
  | [], s => .next s
  | i :: is, s =>
    match exec i s with
    | .next t => execAll is t
    | .fault e => .fault e
    | .refused e => .refused e

/-! ## Reset (10_state.md R51, 70_reset_and_hazards.md R250) -/

/-- Every stored control register holds its reset value. -/
def State.RegistersAtReset (s : State) : Prop :=
  s.phase = .idle ∧ s.err = none ∧ s.ephase = .idle ∧ s.eclv = false ∧ s.penv = 0 ∧ s.version = 0 ∧ s.ecl = .l ∧
  s.size = 0 ∧ s.cwlen = 0 ∧ s.dcap = 0 ∧ s.nsym = 0 ∧ s.dlen = 0 ∧ s.mask = 0 ∧ s.einfo = 0 ∧
  (∀ m : Fin 8, s.pen[m] = 0) ∧ s.pensel = 0 ∧ s.pn1 = 0 ∧ s.pn2 = 0 ∧ s.pn3 = 0 ∧ s.pn4 = 0 ∧ s.darkcnt = 0

/-- The response of a command that faults or is refused with the error code `code`: `E = 1` in bit 31 and the code in
the low bits (30_encoding.md R86). -/
def faultResponse (code : Nat) : Word := 0x80000000#32 + BitVec.ofNat 32 code

/-- The state `s` after the fault `e` of the command word `w` (60_exceptions.md R224). -/
def State.faulted (s : State) (e : ErrorName) (w : Word) : State :=
  { s with
    err := some e
    ephase := s.phase
    einfo := w.extractLsb' 0 31
    phase := .error
    responses := faultResponse e.code :: s.responses }

/-- The state `s` after one more response that is a success with the value `v` below `2^31` (30_encoding.md R86). -/
def State.answered (s : State) (v : Nat) : State :=
  { s with responses := BitVec.ofNat 32 v :: s.responses }

/-- The state `s` after a refusal in phase `ERROR` (60_exceptions.md R225). -/
def State.refusedNow (s : State) : State :=
  { s with responses := faultResponse (errCode s.err) :: s.responses }

/-! ## The phase table and the fault table -/

/-- "accepted in" of the phase table (60_exceptions.md R226). -/
def acceptedCodes : Instr → List Nat
  | .nop => [0, 1, 2, 3, 4, 5, 6, 7, 8, 15]
  | .sreset => [0, 1, 2, 3, 4, 5, 6, 7, 8, 15]
  | .rdreg _ => [0, 1, 2, 3, 4, 5, 6, 7, 8, 15]
  | .setver _ => [0]
  | .setecl _ => [0]
  | .gfadd _ _ => [0, 1, 2, 3, 4, 5, 6, 7, 8]
  | .gfmul _ _ => [0, 1, 2, 3, 4, 5, 6, 7, 8]
  | .gfdiv _ _ => [0, 1, 2, 3, 4, 5, 6, 7, 8]
  | .gfexp _ => [0, 1, 2, 3, 4, 5, 6, 7, 8]
  | .gflog _ => [0, 1, 2, 3, 4, 5, 6, 7, 8]
  | .rsinit _ => [0, 1, 2, 3, 4, 5, 6, 7, 8]
  | .rsdata _ => [0, 1, 2, 3, 4, 5, 6, 7, 8]
  | .rsrd _ => [0, 1, 2, 3, 4, 5, 6, 7, 8]
  | .rsgen _ => [0, 1, 2, 3, 4, 5, 6, 7, 8]
  | .cwpush _ => [0, 1, 2, 3, 4, 5]
  | .cwrd _ => [0, 1, 2, 3, 4, 5, 6, 7, 8]
  | .gridrd _ _ => [1, 2, 3, 4, 5, 6, 7, 8]
  | .mxinit => [0]
  | .mxfind => [1]
  | .mxtime => [2]
  | .mxalign => [3]
  | .mxrsv => [4]
  | .mxdata => [5]
  | .mxbuild => [0]
  | .mskeval _ => [6]
  | .msksel => [6]
  | .mskforce _ => [6]
  | .final => [7]

/-- "next phase" of the phase table (R226), `none` for unchanged. -/
def nextCode : Instr → Option Nat
  | .sreset => some 0
  | .mxinit => some 1
  | .mxfind => some 2
  | .mxtime => some 3
  | .mxalign => some 4
  | .mxrsv => some 5
  | .mxdata => some 6
  | .mxbuild => some 6
  | .msksel => some 7
  | .mskforce _ => some 7
  | .final => some 8
  | .nop => none
  | .rdreg _ => none
  | .setver _ => none
  | .setecl _ => none
  | .gfadd _ _ => none
  | .gfmul _ _ => none
  | .gfdiv _ _ => none
  | .gfexp _ => none
  | .gflog _ => none
  | .rsinit _ => none
  | .rsdata _ => none
  | .rsrd _ => none
  | .rsgen _ => none
  | .cwpush _ => none
  | .cwrd _ => none
  | .gridrd _ _ => none
  | .mskeval _ => none

/-- The refusal in phase `ERROR`, which every command but `NOP`, `SRESET` and `RDREG` shares (60_exceptions.md R225,
R227). -/
def RefusedInError (i : Instr) (s : State) : Prop :=
  s.phase = .error → exec i s = .next s.refusedNow

/-- "The common ones" of a command that is decoded and not accepted in every phase from 0 to 8 (R227): that refusal,
and `SequenceError` in a phase that is not listed for it. -/
def CommonOutcomes (i : Instr) (s : State) : Prop :=
  RefusedInError i s ∧
  (s.phase ≠ .error → s.phase.code ∉ acceptedCodes i → exec i s = .next (s.faulted .sequenceError (encode i)))

/-- The errors a command can raise outside phase `ERROR` in a phase that accepts it, `SequenceError` of the phase kind
apart (60_exceptions.md R223). -/
def ownErrors : Instr → List ErrorName
  | .nop => []
  | .sreset => []
  | .setver _ => [.invalidParameter]
  | .setecl _ => [.invalidParameter]
  | .rdreg _ => [.rangeError]
  | .gfadd _ _ => []
  | .gfmul _ _ => []
  | .gfexp _ => []
  | .gfdiv _ _ => [.gfDomainError]
  | .gflog _ => [.gfDomainError]
  | .rsinit _ => [.invalidParameter]
  | .rsdata _ => [.messageTooLong, .sequenceError]
  | .rsrd _ => [.sequenceError, .rangeError]
  | .rsgen _ => [.sequenceError, .rangeError]
  | .mxinit => [.sequenceError]
  | .mxfind => []
  | .mxtime => []
  | .mxalign => []
  | .mxrsv => []
  | .mxdata => [.rangeError]
  | .mxbuild => [.sequenceError, .rangeError]
  | .mskeval _ => [.invalidParameter]
  | .mskforce _ => [.invalidParameter]
  | .msksel => []
  | .final => []
  | .cwpush _ => [.rangeError]
  | .cwrd _ => [.rangeError]
  | .gridrd _ _ => [.rangeError]

/-- The reading commands of 20_memory.md R66. -/
def isReadCommand : Instr → Bool
  | .nop => false
  | .sreset => false
  | .setver _ => false
  | .setecl _ => false
  | .rdreg _ => true
  | .gfadd _ _ => false
  | .gfmul _ _ => false
  | .gfdiv _ _ => false
  | .gfexp _ => true
  | .gflog _ => true
  | .rsinit _ => false
  | .rsdata _ => false
  | .rsrd _ => true
  | .rsgen _ => true
  | .mxinit => false
  | .mxfind => false
  | .mxtime => false
  | .mxalign => false
  | .mxrsv => false
  | .mxdata => false
  | .mxbuild => false
  | .mskeval _ => false
  | .msksel => false
  | .mskforce _ => false
  | .final => false
  | .cwpush _ => false
  | .cwrd _ => true
  | .gridrd _ _ => true

/-! ## The invariant of the registers and the arrays -/

/-- The states a run from reset can reach satisfy each of these. -/
structure State.Inv (s : State) : Prop where
  /-- `ERR != 0` exactly when `PHASE = 15` (10_state.md R24). -/
  err_iff : s.err = none ↔ s.phase ≠ .error
  /-- Codes 2 and 3 are never produced (60_exceptions.md R222). -/
  err_raised : s.err ≠ some .unencodableInput ∧ s.err ≠ some .dataTooLarge
  /-- A fault is never raised in phase `ERROR` (R225). -/
  ephase_ne : s.ephase ≠ .error
  /-- `VERSION` is 0 or 1 to 40, and `SIZE` is `4*VERSION + 17` or 0 (10_state.md R26). -/
  version_le : s.version.toNat ≤ 40
  size_eq : s.size.toNat = if s.version = 0 then 0 else 4 * s.version.toNat + 17
  /-- From `ALLOC` to `FINAL` the version and the level are set (42_matrix.md R141, R157). -/
  configured : 1 ≤ s.phase.code → s.phase.code ≤ 8 → s.version ≠ 0 ∧ s.eclv = true
  /-- `NSYM` is at most 30, and `DLEN + NSYM <= 255` (41_rs.md R124, R128). -/
  nsym_le : s.nsym.toNat ≤ 30
  block_le : s.dlen.toNat + s.nsym.toNat ≤ 255
  /-- `GEN` holds the generator polynomial of `NSYM`, `REM` nothing from `NSYM` on (10_state.md R40). -/
  gen_eq : s.nsym ≠ 0 → ∀ k, s.genAt k = if k ≤ s.nsym.toNat then (genPoly s.nsym.toNat).getD k 0 else 0
  rem_zero : s.nsym ≠ 0 → ∀ k, s.nsym.toNat ≤ k → s.remAt k = 0
  /-- `CWBUF` holds at most 3706 codewords (10_state.md R42). -/
  cwlen_le : s.cwlen.toNat ≤ 3706
  /-- The memories are in their canonical form, inside their index ranges (20_memory.md R60). -/
  cwbuf_wf : Memory.wf unwrittenCodeword s.cwbuf = true
  cwbuf_below : Memory.below 3706 s.cwbuf = true
  grid_wf : Memory.wf unwrittenCell s.grid = true
  grid_below : ∀ e ∈ s.grid, e.1 / 256 < 177 ∧ e.1 % 256 < 177
  /-- `MASK` reads 0 until a mask is chosen (10_state.md R28). -/
  mask_zero : s.phase.code ≤ 6 ∨ (s.phase = .error ∧ s.ephase.code ≤ 6) → s.mask = 0
  /-- Before placement no penalty is marked valid; in phase `PLACED` a marked one is the penalty of the present grid
  (10_state.md R24, R29). -/
  penv_zero : s.phase.code ≤ 5 → s.penv = 0
  pen_eq : s.phase = .placed → ∀ m : Fin 8, s.penv.getLsbD m.val = true →
    s.pen[m] = valueOfNat (maskScore s m.val).total
  /-- From `RESERVED` to `FINAL`, `DCAP` is the number of data cells of the grid (10_state.md R22). -/
  dcap_eq : 5 ≤ s.phase.code → s.phase.code ≤ 8 → s.dcap.toNat = countData s.size.toNat s.grid

/-! ## The invariant of the grid -/

/-- The positions of the format and version information (42_matrix.md R151, R152). -/
def informationPositions (version n : Nat) : List Pos :=
  ((List.range 15).flatMap fun i => [formatCell1 i, formatCell2 n i]) ++
  (if 7 ≤ version then (List.range 18).flatMap fun i => [versionCell1 n i, versionCell2 n i] else [])

/-- What the cells of the grid hold in each phase. -/
structure State.GridInv (s : State) : Prop where
  /-- A function cell is never `Unset`, a data cell never `Reserved` (44_system.md R207). -/
  cell_kind : 1 ≤ s.phase.code → s.phase.code ≤ 8 → ∀ r c, r < s.size.toNat → c < s.size.toNat →
    ((s.cell r c).fn = true → (s.cell r c).st ≠ .unset) ∧ ((s.cell r c).fn = false → (s.cell r c).st ≠ .reserved)
  /-- Before data placement a data cell is `Unset` (42_matrix.md R150). -/
  data_unset : 1 ≤ s.phase.code → s.phase.code ≤ 5 → ∀ r c, r < s.size.toNat → c < s.size.toNat →
    (s.cell r c).fn = false → (s.cell r c).st = .unset
  /-- Before `MXRSV` no cell is `Reserved`. -/
  not_reserved : 1 ≤ s.phase.code → s.phase.code ≤ 4 → ∀ r c, r < s.size.toNat → c < s.size.toNat →
    (s.cell r c).st ≠ .reserved
  /-- Column 6 holds finder and separator cells, and timing cells between them (42_matrix.md R142, R145). -/
  column6_ends : 2 ≤ s.phase.code → s.phase.code ≤ 8 → ∀ r, r < s.size.toNat → (r < 8 ∨ s.size.toNat ≤ r + 8) →
    (s.cell r 6).fn = true
  column6_timing : 3 ≤ s.phase.code → s.phase.code ≤ 8 → ∀ r, r < s.size.toNat → (s.cell r 6).fn = true
  /-- After `MXRSV` and before `FINAL` the `Reserved` cells are format or version cells (42_matrix.md R156). -/
  reserved_where : 5 ≤ s.phase.code → s.phase.code ≤ 7 → ∀ r c, r < s.size.toNat → c < s.size.toNat →
    (s.cell r c).st = .reserved → (r, c) ∈ informationPositions s.version.toNat s.size.toNat
  /-- After placement no cell is `Unset` (42_matrix.md R156). -/
  placed_set : 6 ≤ s.phase.code → s.phase.code ≤ 8 → ∀ r c, r < s.size.toNat → c < s.size.toNat →
    (s.cell r c).st ≠ .unset
  /-- "every module is Dark or Light in the finished grid (no Unset/Reserved remain)" (10_state.md R45). -/
  final_coloured : s.phase = .final → ∀ r c, r < s.size.toNat → c < s.size.toNat →
    (s.cell r c).st = .dark ∨ (s.cell r c).st = .light

/-! ## What no host can tell apart (70_reset_and_hazards.md R250) -/

/-- The two states agree on every register, on the port, and on the part of each array that a command can read:
`GEN[0..NSYM]` and `REM[0..NSYM-1]` when `NSYM != 0`, `CWBUF[0..CWLEN-1]`, and the cells inside the grid in phases
1 to 8 (20_memory.md R60). -/
structure State.Agree (s t : State) : Prop where
  registers : { t with gen := s.gen, rem := s.rem, cwbuf := s.cwbuf, grid := s.grid } = s
  gen_eq : s.nsym ≠ 0 → ∀ k, k ≤ s.nsym.toNat → s.genAt k = t.genAt k
  rem_eq : s.nsym ≠ 0 → ∀ k, k < s.nsym.toNat → s.remAt k = t.remAt k
  cwbuf_eq : ∀ k, k < s.cwlen.toNat → s.codeword k = t.codeword k
  grid_eq : 1 ≤ s.phase.code → s.phase.code ≤ 8 → ∀ r c, r < s.size.toNat → c < s.size.toNat → s.cell r c = t.cell r c

/-! ## Reference forms of the spec -/

/-- Multiplication by `x` with one reduction by `0x11D`: one step of the recurrence that fixes `EXP` (40_gf.md R101). -/
def timesX (b : Byte) : Byte := if b.msb then (b <<< 1) ^^^ 0x1D else b <<< 1

/-- The value of a polynomial, coefficients highest degree first, at a field element. -/
def polyEval (g : List Byte) (x : Byte) : Byte := g.foldl (fun acc c => gfMul acc x ^^^ c) 0

/-- The step for one input codeword in D0's buffer form (41_rs.md R123): the rest of the buffer after the leading
coefficient `coef` has been used. `gen` is the generator without its leading coefficient. -/
def bufferStep (gen : List Byte) (coef : Byte) (rest : List Byte) : List Byte :=
  if coef = 0 then rest
  else List.zipWith (fun x y => x ^^^ y) rest (gen.map (fun g => gfMul g coef) ++ List.replicate (rest.length - gen.length) 0)

/-- The buffer after `steps` input codewords have been processed; the processed positions are dropped (R123). -/
def bufferRun (gen : List Byte) : Nat → List Byte → List Byte
  | 0, buf => buf
  | _ + 1, [] => []
  | steps + 1, coef :: rest => bufferRun gen steps (bufferStep gen coef rest)

/-- `rs_block(d, nsym)` (R123): "the last nsym positions" of the extended buffer. -/
def rsBlock (data : List Byte) (nsym : Nat) : List Byte :=
  bufferRun (genPoly nsym).tail data.length (data ++ List.replicate nsym 0)

/-- The finder or separator colour at cell `(r, c)` of a grid of side `n`, `none` outside the three corner regions
(42_matrix.md R142). `dr` and `dc` are the offsets from the finder's origin. -/
def finderRegion (n r c : Nat) : Option ModuleState :=
  let colour (dr dc : Int) : ModuleState :=
    if 0 ≤ dr ∧ dr ≤ 6 ∧ 0 ≤ dc ∧ dc ≤ 6 ∧ max |dr - 3| |dc - 3| ≠ 2 then .dark else .light
  if r ≤ 7 ∧ c ≤ 7 then some (colour r c)
  else if r ≤ 7 ∧ n - 8 ≤ c ∧ c < n then some (colour r (c - (n - 7)))
  else if n - 8 ≤ r ∧ r < n ∧ c ≤ 7 then some (colour (r - (n - 7)) c)
  else none

/-- `(r0, c0)` is the centre of an alignment pattern that is placed (42_matrix.md R147). -/
def IsAlignmentCentre (version r0 c0 : Nat) : Prop :=
  r0 ∈ alignCentres version ∧ c0 ∈ alignCentres version ∧
  ¬(r0 = 6 ∧ c0 = 6) ∧ ¬(r0 = 6 ∧ c0 = 4 * version + 10) ∧ ¬(r0 = 4 * version + 10 ∧ c0 = 6)

/-- The grid of `t` is that of `s` with mask `m` applied, cell by cell (43_mask.md R171, R180): the flip of every data
cell inside the grid where the formula holds, and no other change. The pairs `(r, c)` with `c < 256` are all
addresses. -/
def GridMasked (m : Nat) (s t : State) : Prop :=
  ∀ r c, c < 256 → t.cell r c =
    if r < s.size.toNat ∧ c < s.size.toNat ∧ (s.cell r c).fn = false ∧ maskFormula m r c = true then
      ⟨if (s.cell r c).st = .dark then .light else .dark, false⟩
    else s.cell r c

/-- The loop that builds `PATH`, as 42_matrix.md R154 writes it: `right`, the strip counter `k` and the list so far.
`fn r c` is `FN[r][c]`; `passes` bounds the number of passes, of which each takes at least two columns. -/
def pathLoop (n : Nat) (fn : Nat → Nat → Bool) : (passes right k : Nat) → List Pos → List Pos
  | 0, _, _, acc => acc
  | passes + 1, right, k, acc =>
    if 1 ≤ right then
      let right' := if right = 6 then 5 else right
      let strip := (List.range n).foldl (fun acc t =>
        let r := if k % 2 = 0 then n - 1 - t else t
        [right', right' - 1].foldl (fun acc c => if fn r c = false then acc ++ [(r, c)] else acc) acc) acc
      pathLoop n fn passes (right' - 2) (k + 1) strip
    else acc

/-- The number of data cells of a version in closed form (42_matrix.md R158). -/
def dataCellCount (v : Nat) : Nat :=
  let a := v / 7 + 2
  (16 * v + 128) * v + 64 - (if 2 ≤ v then (25 * a - 10) * a - 55 else 0) - (if 7 ≤ v then 36 else 0)

/-- N1 of one line as the loop of the spec (43_mask.md R174): the score so far and the length of the present run. -/
def n1Loop (x : List Bool) : Nat :=
  ((List.range' 1 x.length).foldl (fun (acc : Nat × Nat) k =>
    if k < x.length ∧ x[k]? = x[k - 1]? then (acc.1, acc.2 + 1)
    else (acc.1 + (if 5 ≤ acc.2 then 3 + (acc.2 - 5) else 0), 1)) (0, 1)).1

/-- The colour of cell `(r, c)` of a plane. -/
def Plane.at (p : Plane) (r c : Nat) : Bool := (p.getD r []).getD c false

/-- A plane of side `n`. -/
def Plane.Square (n : Nat) (p : Plane) : Prop := p.length = n ∧ ∀ row ∈ p, row.length = n

end Sys2Proof.Machine
end

