-- ==== Sys2Proof/Certificates/Slice0/Obligations.lean ====
section
/-! DEFINITION. The statements about the model, for the provers. Each names in its docstring the rules of spec/ it
rests on. A pair `(r, c)` with `c < 256` is an address of the grid, and every address is such a pair (log 9), so
"for every `r` and every `c < 256`" is "for every address". -/

open Sys2Proof Sys2Proof.Machine

/-! ## Encoding and decoding -/

/-- Decoding the encoding of a well-formed command gives it back, with every operand (30_encoding.md R80, R81, R84). -/
def Obligations.DecodeOfEncode : Prop :=
  ∀ i : Instr, i.WellFormed → Sys2Proof.decode (Sys2Proof.encode i) = some i

/-- A word that decodes is the encoding of the command it decodes to, and that command is well-formed: no two words
spell one command, and no bit of a word is dropped (30_encoding.md R80 to R82). -/
def Obligations.EncodeOfDecode : Prop :=
  ∀ (w : Word) (i : Instr), Sys2Proof.decode w = some i → Sys2Proof.encode i = w ∧ i.WellFormed

/-- A word spells the command of the one row with `w & mask = match`, `IllegalCommand` when no row matches, and no
word matches two rows (30_encoding.md R82). -/
def Obligations.DecodeMatchesOpcodeTable : Prop :=
  (∀ (w : Word) (i : Instr), Sys2Proof.decode w = some i →
    ∃ row ∈ opcodeTable, w &&& row.mask = row.pattern ∧ row.mnemonic = i.mnemonic) ∧
  (∀ (w : Word), ∀ row ∈ opcodeTable, w &&& row.mask = row.pattern →
    ∃ i, Sys2Proof.decode w = some i ∧ row.mnemonic = i.mnemonic) ∧
  (∀ (w : Word), ∀ row ∈ opcodeTable, ∀ row' ∈ opcodeTable,
    w &&& row.mask = row.pattern → w &&& row'.mask = row'.pattern → row = row') ∧
  (∀ (w : Word) (s : State) (rest : List HostAction),
    (∀ row ∈ opcodeTable, w &&& row.mask ≠ row.pattern) → s.pending = .command w :: rest → s.phase ≠ .error →
    step s = .next ({ s with pending := rest }.faulted .illegalCommand w))

/-- The worked encodings of 30_encoding.md R90, and the three words there that are no commands. -/
def Obligations.WorkedEncodings : Prop :=
  Sys2Proof.decode 0x00000000 = some .nop ∧ Sys2Proof.decode 0x02000001 = some (.setver 1) ∧
  Sys2Proof.decode 0x03000001 = some (.setecl 1) ∧ Sys2Proof.decode 0x11000307 = some (.gfmul 3 7) ∧
  Sys2Proof.decode 0x2000000A = some (.rsinit 10) ∧ Sys2Proof.decode 0x21000020 = some (.rsdata 0x20) ∧
  Sys2Proof.decode 0x36000000 = some .mxbuild ∧ Sys2Proof.decode 0x42000005 = some (.mskforce 5) ∧
  Sys2Proof.decode 0x51000E79 = some (.cwrd 3705) ∧ Sys2Proof.decode 0x52001408 = some (.gridrd 20 8) ∧
  ∀ w ∈ [0x00000001#32, 0x05000000#32, 0x11010307#32], Sys2Proof.decode w = none ∧
    ∀ (s : State) (rest : List HostAction), s.pending = .command w :: rest → s.phase ≠ .error →
      step s = .next ({ s with pending := rest }.faulted .illegalCommand w)

/-! ## The step -/

/-- What a step does with the host's next action: a word that decodes is executed as the command it decodes to, on
the state with that action taken; a word that does not raises `IllegalCommand`, or is refused in phase `ERROR`; with
nothing pending nothing changes (60_exceptions.md R228; the port as data is the model's, log 4). -/
def Obligations.StepRunsDecodedCommand : Prop :=
  ∀ s : State,
    (∀ w rest i, s.pending = .command w :: rest → Sys2Proof.decode w = some i →
      step s = exec i { s with pending := rest }) ∧
    (∀ w rest, s.pending = .command w :: rest → Sys2Proof.decode w = none →
      step s = .next (if s.phase = .error then { s with pending := rest }.refusedNow
        else { s with pending := rest }.faulted .illegalCommand w)) ∧
    (s.pending = [] → step s = .next s)

/-- Hardware reset, between commands, gives every control register its reset value and no response
(70_reset_and_hazards.md R250, R251). That the arrays keep what they hold is the model's choice (log 3). -/
def Obligations.HardwareReset : Prop :=
  ∀ (s : State) (rest : List HostAction), s.pending = .reset :: rest →
    ∃ t, step s = .next t ∧ t.RegistersAtReset ∧ t.responses = s.responses ∧ t.pending = rest ∧
      t.gen = s.gen ∧ t.rem = s.rem ∧ t.cwbuf = s.cwbuf ∧ t.grid = s.grid

/-- The machine right after reset: the values the spec gives (10_state.md R51, 70_reset_and_hazards.md R250), `ID`
among them as `RDREG` reads it, and every array unreadable. -/
def Obligations.ResetValues : Prop :=
  State.reset.RegistersAtReset ∧
  exec (.rdreg 0) State.reset = .next (State.reset.answered 0x51524331) ∧
  (∀ n, n ≤ 0x0A ∨ (0x10 ≤ n ∧ n ≤ 0x1D) → n ≠ 0 →
    exec (.rdreg n) State.reset = .next (State.reset.answered 0)) ∧
  (∀ a, exec (.rsrd a) State.reset = .next (State.reset.faulted .sequenceError (Sys2Proof.encode (.rsrd a)))) ∧
  (∀ a, exec (.rsgen a) State.reset = .next (State.reset.faulted .sequenceError (Sys2Proof.encode (.rsgen a)))) ∧
  (∀ h, exec (.cwrd h) State.reset = .next (State.reset.faulted .rangeError (Sys2Proof.encode (.cwrd h)))) ∧
  (∀ a b, exec (.gridrd a b) State.reset =
    .next (State.reset.faulted .sequenceError (Sys2Proof.encode (.gridrd a b))))

/-- Every command gives exactly one response and leaves the host's later actions alone; `E = 1` exactly when the
command faulted or was refused, and then the response is the code now in `ERR`; and the state it leaves is in phase
`ERROR` only then or if it was before (30_encoding.md R86). -/
def Obligations.OneResponsePerCommand : Prop :=
  ∀ (i : Instr) (s : State), ∃ t w, exec i s = .next t ∧ t.responses = w :: s.responses ∧ t.pending = s.pending ∧
    (w.msb = true → t.phase = .error ∧ w = faultResponse (errCode t.err)) ∧
    (w.msb = false → t.phase = .error → t = { s with responses := w :: s.responses })

/-- "Every 32-bit word in every phase has exactly one outcome", a next state: nothing stops the machine
(70_reset_and_hazards.md R262). -/
def Obligations.EveryStepAnswers : Prop :=
  ∀ s : State, ∃ t, step s = .next t

/-! ## Faults and phases -/

/-- Phase `ERROR`: `NOP`, `SRESET` and `RDREG` of a defined number succeed; any other word, spelling a command or not,
is refused with the recorded code and changes nothing (60_exceptions.md R225). -/
def Obligations.ErrorPhaseRefuses : Prop :=
  ∀ s : State, s.phase = .error →
    exec .nop s = .next (s.answered 0) ∧
    (∃ t, exec .sreset s = .next t ∧ t.RegistersAtReset ∧ t.responses = 0 :: s.responses) ∧
    (∀ a v, s.controlRegister a = some v → exec (.rdreg a) s = .next (s.answered v.toNat)) ∧
    (∀ i, i ≠ .nop → i ≠ .sreset → (∀ a, i = .rdreg a → s.controlRegister a = none) →
      exec i s = .next s.refusedNow) ∧
    (∀ w rest, s.pending = .command w :: rest → Sys2Proof.decode w = none →
      step s = .next ({ s with pending := rest }.refusedNow))

/-- A fault outside phase `ERROR` writes `ERR`, `EPHASE`, `EINFO`, `PHASE` and the response, and nothing else: every
other register and every array is as before (60_exceptions.md R224). -/
def Obligations.FaultChangesNothingElse : Prop :=
  (∀ (i : Instr) (s t : State), s.phase ≠ .error → exec i s = .next t → t.phase = .error →
    ∃ e, t = s.faulted e (Sys2Proof.encode i)) ∧
  (∀ (w : Word) (s : State) (rest : List HostAction), s.phase ≠ .error → s.pending = .command w :: rest →
    Sys2Proof.decode w = none → step s = .next ({ s with pending := rest }.faulted .illegalCommand w))

/-- The phase table: a command is refused or raises `SequenceError` in a phase not listed for it, and a success leaves
the listed next phase (60_exceptions.md R226). -/
def Obligations.PhaseTable : Prop :=
  ∀ (i : Instr) (s : State),
    (s.phase ≠ .error → s.phase.code ∉ acceptedCodes i →
      exec i s = .next (s.faulted .sequenceError (Sys2Proof.encode i))) ∧
    (s.phase = .error → 15 ∉ acceptedCodes i → exec i s = .next s.refusedNow) ∧
    (∀ t w, exec i s = .next t → t.responses = w :: s.responses → w.msb = false →
      s.phase.code ∈ acceptedCodes i ∧ t.phase.code = (nextCode i).getD s.phase.code)

/-- `PHASE` only ever stays, moves from `n` to `n+1`, from 0 to 6 by `MXBUILD`, to 15 by a fault, or to 0 by reset
(10_state.md R25). -/
def Obligations.PhaseOnlyMovesForward : Prop :=
  ∀ s t : State, step s = .next t →
    t.phase = s.phase ∨ t.phase.code = s.phase.code + 1 ∨
    (s.phase = .idle ∧ t.phase = .placed ∧ ∃ rest, s.pending = .command 0x36000000 :: rest) ∨
    (s.phase ≠ .error ∧ t.phase = .error ∧ t.ephase = s.phase) ∨
    (t.phase = .idle ∧ ((∃ rest, s.pending = .reset :: rest) ∨ ∃ rest, s.pending = .command 0x01000000 :: rest))

/-- Codes 2 and 3, `UnencodableInput` and `DataTooLarge`, are raised by no command (60_exceptions.md R222). -/
def Obligations.HostErrorsNeverRaised : Prop :=
  ∀ s t : State, step s = .next t →
    (t.err = some .unencodableInput → s.err = some .unencodableInput) ∧
    (t.err = some .dataTooLarge → s.err = some .dataTooLarge)

/-- Which command can raise which error in a phase that accepts it (60_exceptions.md R223). -/
def Obligations.FaultTable : Prop :=
  ∀ (i : Instr) (s t : State) (e : ErrorName), s.phase ≠ .error → s.phase.code ∈ acceptedCodes i →
    exec i s = .next t → t.phase = .error → t.err = some e → e ∈ ownErrors i

/-- The doubly wrong commands of 60_exceptions.md R228: the phase is checked before the operand, the opcode before the
phase, `NSYM` before the index, and the configuration before the buffer's length. -/
def Obligations.CheckOrder : Prop :=
  ∀ s : State,
    (s.phase = .timing → exec (.setver 41) s = .next (s.faulted .sequenceError 0x02000029)) ∧
    (s.phase ≠ .error → ∀ rest, s.pending = .command 0x05000041 :: rest →
      step s = .next ({ s with pending := rest }.faulted .illegalCommand 0x05000041)) ∧
    (s.phase ≠ .error → s.nsym = 0 → exec (.rsrd 40) s = .next (s.faulted .sequenceError 0x22000028)) ∧
    (s.phase = .idle → s.version = 0 → exec .mxbuild s = .next (s.faulted .sequenceError 0x36000000))

/-- In phase `FINAL` no command writes the grid: the symbol is immutable (10_state.md R44, 60_exceptions.md R226). That
`SRESET` leaves the grid alone too is the model's choice (log 3): the spec leaves `ST` and `FN` unspecified after it. -/
def Obligations.FinishedGridImmutable : Prop :=
  ∀ (i : Instr) (s t : State), s.phase = .final → exec i s = .next t →
    t.grid = s.grid ∧ (i ≠ .sreset → t.version = s.version ∧ t.ecl = s.ecl ∧ t.mask = s.mask)

/-- A read that succeeds changes no state (20_memory.md R66). -/
def Obligations.ReadsHaveNoSideEffects : Prop :=
  ∀ (i : Instr) (s t : State) (w : Word), isReadCommand i = true → exec i s = .next t → t.responses = w :: s.responses →
    w.msb = false → t = { s with responses := w :: s.responses }

/-! ## Invariants -/

/-- The reset state meets the invariants. -/
def Obligations.ResetMeetsInvariants : Prop := State.reset.Inv ∧ State.reset.GridInv

/-- Every step keeps the invariant of the registers and the arrays (`State.Inv` cites the rule of each part). -/
def Obligations.StepKeepsInvariant : Prop :=
  ∀ s t : State, s.Inv → step s = .next t → t.Inv

/-- Every step keeps the invariant of the grid, whose last part is that a finished grid holds dark and light modules
only (10_state.md R45, 42_matrix.md R156). -/
def Obligations.StepKeepsGridInvariant : Prop :=
  ∀ s t : State, s.Inv → s.GridInv → step s = .next t → t.GridInv

/-- The contents that the spec leaves unspecified after reset cannot be told apart: two states that agree on all a
command can read give the same responses and still agree after a step (70_reset_and_hazards.md R250,
10_state.md R40, R42, R44). -/
def Obligations.UnspecifiedArraysUnobservable : Prop :=
  ∀ s t s' t' : State, s.Inv → t.Inv → s.Agree t → step s = .next s' → step t = .next t' → s'.Agree t'

/-! ## GF(256) engine -/

/-- `GFADD a, b` responds `a ^ b` and changes nothing (40_gf.md R105). -/
def Obligations.GfAddResult : Prop :=
  ∀ (a b : Byte) (s : State),
    Sys2Proof.encode (.gfadd a b) = 0x10#8 ++ 0#8 ++ a ++ b ∧ RefusedInError (.gfadd a b) s ∧
    (s.phase ≠ .error → exec (.gfadd a b) s = .next (s.answered (a ^^^ b).toNat))

/-- `GFMUL a, b` responds 0 if either operand is 0, else `EXP[(LOG[a] + LOG[b]) mod 255]`, and changes nothing
(40_gf.md R106, R104). -/
def Obligations.GfMulResult : Prop :=
  ∀ (a b : Byte) (s : State),
    Sys2Proof.encode (.gfmul a b) = 0x11#8 ++ 0#8 ++ a ++ b ∧ RefusedInError (.gfmul a b) s ∧
    (s.phase ≠ .error → exec (.gfmul a b) s = .next (s.answered
      (if a = 0 ∨ b = 0 then 0 else (gfExp (((gfLog a).toNat + (gfLog b).toNat) % 255)).toNat)))

/-- `GFDIV a, b`: the divisor 0 raises `GFDomainError` whatever `a` is; else 0 for `a = 0`, else
`EXP[(LOG[a] + 255 - LOG[b]) mod 255]` (40_gf.md R107, R104). -/
def Obligations.GfDivResult : Prop :=
  ∀ (a b : Byte) (s : State),
    Sys2Proof.encode (.gfdiv a b) = 0x12#8 ++ 0#8 ++ a ++ b ∧ RefusedInError (.gfdiv a b) s ∧
    (s.phase ≠ .error → b = 0 →
      exec (.gfdiv a b) s = .next (s.faulted .gfDomainError (Sys2Proof.encode (.gfdiv a b)))) ∧
    (s.phase ≠ .error → b ≠ 0 → exec (.gfdiv a b) s = .next (s.answered
      (if a = 0 then 0 else (gfExp (((gfLog a).toNat + 255 - (gfLog b).toNat) % 255)).toNat)))

/-- `GFEXP a` responds `EXP[a]`; `GFLOG a` responds `LOG[a]`, and raises `GFDomainError` for `a = 0`; neither changes
anything else (40_gf.md R108, R109). -/
def Obligations.GfTableReads : Prop :=
  ∀ (a : Byte) (s : State),
    (Sys2Proof.encode (.gfexp a.toNat) = 0x13#8 ++ 0#16 ++ a ∧ RefusedInError (.gfexp a.toNat) s ∧
      (s.phase ≠ .error → exec (.gfexp a.toNat) s = .next (s.answered (gfExp a.toNat).toNat))) ∧
    (Sys2Proof.encode (.gflog a) = 0x14#8 ++ 0#16 ++ a ∧ RefusedInError (.gflog a) s ∧
      (s.phase ≠ .error → a ≠ 0 → exec (.gflog a) s = .next (s.answered (gfLog a).toNat)) ∧
      (s.phase ≠ .error → a = 0 →
        exec (.gflog a) s = .next (s.faulted .gfDomainError (Sys2Proof.encode (.gflog a)))))

/-- The tables: `EXP[0] = 1`, each entry to 254 is the one before times `x` reduced by `0x11D`, `EXP[255] = 1`; for
`a` in 1 to 255 `LOG[a]` is the one `i` in 0 to 254 with `EXP[i] = a` (40_gf.md R101, R102). -/
def Obligations.GfTablesFollowRecurrence : Prop :=
  gfExp 0 = 1 ∧ (∀ i, i < 254 → gfExp (i + 1) = timesX (gfExp i)) ∧ gfExp 255 = 1 ∧
  (∀ a : Byte, a ≠ 0 → (gfLog a).toNat ≤ 254 ∧ gfExp (gfLog a).toNat = a) ∧
  (∀ i, i ≤ 254 → gfExp i ≠ 0 ∧ (gfLog (gfExp i)).toNat = i)

/-- The arithmetic of the field (40_gf.md R104): `gf_add`, `gf_mul` and `gf_div` (for `b != 0`) in their table forms;
`gf_mul` is commutative and associative, distributes over `gf_add`, has identity 1 and annihilator 0, and
`gf_mul(gf_div(a, b), b) = a` for `b != 0`. -/
def Obligations.GfFieldLaws : Prop :=
  (∀ a b, gfMul a b = gfMul b a) ∧ (∀ a b c, gfMul (gfMul a b) c = gfMul a (gfMul b c)) ∧
  (∀ a b c, gfMul a (gfAdd b c) = gfAdd (gfMul a b) (gfMul a c)) ∧ (∀ a, gfMul a 1 = a) ∧ (∀ a, gfMul a 0 = 0) ∧
  (∀ a b, gfAdd a b = a ^^^ b) ∧ (∀ a b, b ≠ 0 → gfMul (gfDiv a b) b = a) ∧
  (∀ a b, gfMul a b = if a = 0 ∨ b = 0 then 0 else gfExp (((gfLog a).toNat + (gfLog b).toNat) % 255)) ∧
  (∀ a b, b ≠ 0 → gfDiv a b = if a = 0 then 0 else gfExp (((gfLog a).toNat + 255 - (gfLog b).toNat) % 255))

/-! ## Reed-Solomon encoder -/

/-- `RSINIT a` for `a` in 1 to 30 sets `NSYM`, clears `DLEN` and `REM`, and puts the generator polynomial into `GEN`;
any other `a` raises `InvalidParameter` (41_rs.md R124). -/
def Obligations.RsInitEffect : Prop :=
  ∀ (a : Nat) (s : State),
    Sys2Proof.encode (.rsinit a) = 0x20#8 ++ 0#16 ++ BitVec.ofNat 8 a ∧ RefusedInError (.rsinit a) s ∧
    (s.phase ≠ .error → 1 ≤ a → a ≤ 30 → ∃ t, exec (.rsinit a) s = .next t ∧
      t = { s with nsym := BitVec.ofNat 5 a, dlen := 0, gen := t.gen, rem := t.rem, responses := 0 :: s.responses } ∧
      (∀ k, k ≤ 30 → t.genAt k = if k ≤ a then (genPoly a).getD k 0 else 0) ∧ (∀ k, k < 30 → t.remAt k = 0)) ∧
    (s.phase ≠ .error → a < 1 ∨ 30 < a →
      exec (.rsinit a) s = .next (s.faulted .invalidParameter (Sys2Proof.encode (.rsinit a))))

/-- The generator coefficients the spec prints (41_rs.md R122). -/
def Obligations.GeneratorTable : Prop :=
  genPoly 1 = [1, 1] ∧ genPoly 2 = [1, 3, 2] ∧ genPoly 3 = [1, 7, 14, 8] ∧
  genPoly 7 = [1, 127, 122, 154, 164, 11, 68, 117] ∧
  genPoly 10 = [1, 216, 194, 159, 111, 199, 94, 95, 113, 157, 193] ∧
  genPoly 13 = [1, 137, 73, 227, 17, 177, 17, 52, 13, 46, 43, 83, 132, 120] ∧
  genPoly 15 = [1, 29, 196, 111, 163, 112, 74, 10, 105, 105, 139, 132, 151, 32, 134, 26] ∧
  genPoly 16 = [1, 59, 13, 104, 189, 68, 209, 30, 8, 163, 65, 41, 229, 98, 50, 36, 59] ∧
  genPoly 17 = [1, 119, 66, 83, 120, 119, 22, 197, 83, 249, 41, 143, 134, 85, 53, 125, 99, 79] ∧
  genPoly 18 = [1, 239, 251, 183, 113, 149, 175, 199, 215, 240, 220, 73, 82, 173, 75, 32, 67, 217, 146] ∧
  genPoly 20 = [1, 152, 185, 240, 5, 111, 99, 6, 220, 112, 150, 69, 36, 187, 22, 228, 198, 121, 121, 165, 174] ∧
  genPoly 22 = [1, 89, 179, 131, 176, 182, 244, 19, 189, 69, 40, 28, 137, 29, 123, 67, 253, 86, 218, 230, 26, 145,
    245] ∧
  genPoly 24 = [1, 122, 118, 169, 70, 178, 237, 216, 102, 115, 150, 229, 73, 130, 72, 61, 43, 206, 1, 237, 247, 127,
    217, 144, 117] ∧
  genPoly 26 = [1, 246, 51, 183, 4, 136, 98, 199, 152, 77, 56, 206, 24, 145, 40, 209, 117, 233, 42, 135, 68, 70, 144,
    146, 77, 43, 94] ∧
  genPoly 28 = [1, 252, 9, 28, 13, 18, 251, 208, 150, 103, 174, 100, 41, 167, 12, 247, 56, 117, 119, 233, 127, 181,
    100, 121, 147, 176, 74, 58, 197] ∧
  genPoly 30 = [1, 212, 246, 77, 73, 195, 192, 75, 98, 5, 70, 103, 177, 22, 217, 138, 51, 181, 246, 72, 25, 18, 46,
    228, 74, 216, 195, 11, 106, 130, 150]

/-- The generator polynomial for `nsym` has degree `nsym`, leading coefficient 1, and the roots `2^i` for `i` below
`nsym`: it is the product of the factors `(x - 2^i)` (41_rs.md R121). -/
def Obligations.GeneratorRoots : Prop :=
  ∀ nsym, nsym ≤ 30 →
    (genPoly nsym).length = nsym + 1 ∧ (genPoly nsym).head? = some 1 ∧
    ∀ i, i < nsym → polyEval (genPoly nsym) (gfExp i) = 0

/-- `RSDATA a`: `SequenceError` before an `RSINIT`, `MessageTooLong` past 255 codewords; else the remainder shifts and
takes `GEN[k+1] * (a ^ REM[0])`, `DLEN` counts, and nothing else changes (41_rs.md R125). -/
def Obligations.RsDataEffect : Prop :=
  ∀ (a : Byte) (s : State),
    Sys2Proof.encode (.rsdata a) = 0x21#8 ++ 0#16 ++ a ∧ RefusedInError (.rsdata a) s ∧
    (s.phase ≠ .error →
    (s.nsym = 0 → exec (.rsdata a) s = .next (s.faulted .sequenceError (Sys2Proof.encode (.rsdata a)))) ∧
    (s.nsym ≠ 0 → 255 < s.dlen.toNat + 1 + s.nsym.toNat →
      exec (.rsdata a) s = .next (s.faulted .messageTooLong (Sys2Proof.encode (.rsdata a)))) ∧
    (s.nsym ≠ 0 → s.dlen.toNat + 1 + s.nsym.toNat ≤ 255 → ∃ t, exec (.rsdata a) s = .next t ∧
      t = { s with rem := t.rem, dlen := t.dlen, responses := BitVec.ofNat 32 (s.dlen.toNat + 1) :: s.responses } ∧
      t.dlen.toNat = s.dlen.toNat + 1 ∧
      ∀ k, k < 30 → t.remAt k =
        if k < s.nsym.toNat then
          (if k + 1 < s.nsym.toNat then s.remAt (k + 1) else 0) ^^^ gfMul (s.genAt (k + 1)) (a ^^^ s.remAt 0)
        else s.remAt k))

/-- `RSRD a` responds `REM[a]` for `a < NSYM` and `RSGEN a` responds `GEN[a]` for `a <= NSYM`; both raise
`SequenceError` with `NSYM = 0` and `RangeError` beyond, and change nothing (41_rs.md R126, R127). -/
def Obligations.RsReadback : Prop :=
  ∀ (a : Nat) (s : State),
    Sys2Proof.encode (.rsrd a) = 0x22#8 ++ 0#16 ++ BitVec.ofNat 8 a ∧ RefusedInError (.rsrd a) s ∧
    Sys2Proof.encode (.rsgen a) = 0x23#8 ++ 0#16 ++ BitVec.ofNat 8 a ∧ RefusedInError (.rsgen a) s ∧
    (s.phase ≠ .error →
    (s.nsym = 0 → exec (.rsrd a) s = .next (s.faulted .sequenceError (Sys2Proof.encode (.rsrd a))) ∧
      exec (.rsgen a) s = .next (s.faulted .sequenceError (Sys2Proof.encode (.rsgen a)))) ∧
    (s.nsym ≠ 0 →
      (a < s.nsym.toNat → exec (.rsrd a) s = .next (s.answered (s.remAt a).toNat)) ∧
      (s.nsym.toNat ≤ a → exec (.rsrd a) s = .next (s.faulted .rangeError (Sys2Proof.encode (.rsrd a)))) ∧
      (a ≤ s.nsym.toNat → exec (.rsgen a) s = .next (s.answered (s.genAt a).toNat)) ∧
      (s.nsym.toNat < a → exec (.rsgen a) s = .next (s.faulted .rangeError (Sys2Proof.encode (.rsgen a))))))

/-- The streaming form gives the ECC block of D0's buffer form: after `RSINIT nsym` and one `RSDATA` for each data
codeword, `REM[0..NSYM-1]` is `rs_block(d, nsym)` (41_rs.md R123). -/
def Obligations.StreamingEqualsBufferForm : Prop :=
  ∀ (nsym : Nat) (data : List Byte) (s : State), 1 ≤ nsym → nsym ≤ 30 → data.length + nsym ≤ 255 →
    s.phase ≠ .error →
    ∃ t, execAll (.rsinit nsym :: data.map .rsdata) s = .next t ∧
      ∀ k, k < nsym → t.remAt k = (rsBlock data nsym).getD k 0

/-- The encoder is linear, and the ECC block of zeros is zero (41_rs.md R129). -/
def Obligations.EncoderLinear : Prop :=
  ∀ nsym, 1 ≤ nsym → nsym ≤ 30 →
    (∀ d e : List Byte, d.length = e.length →
      rsBlock (List.zipWith (fun x y => x ^^^ y) d e) nsym =
        List.zipWith (fun x y => x ^^^ y) (rsBlock d nsym) (rsBlock e nsym)) ∧
    (∀ n, rsBlock (List.replicate n 0) nsym = List.replicate nsym 0)

/-! ## Matrix builder -/

/-- `MXINIT`: with the version and the level set, every cell inside the grid becomes `Unset` with `FN = 0`, no other
cell changes, and the phase is `ALLOC`; without them `SequenceError` (42_matrix.md R141). -/
def Obligations.MxInitEffect : Prop :=
  Sys2Proof.encode .mxinit = 0x30000000 ∧ (∀ s : State, CommonOutcomes .mxinit s) ∧
  ∀ s : State, s.phase = .idle →
    (s.version = 0 ∨ s.eclv = false →
      exec .mxinit s = .next (s.faulted .sequenceError (Sys2Proof.encode .mxinit))) ∧
    (s.version ≠ 0 → s.eclv = true → Memory.wf unwrittenCell s.grid = true → ∃ t, exec .mxinit s = .next t ∧
      t = { s with grid := t.grid, phase := .alloc, responses := 0 :: s.responses } ∧
      ∀ r c, c < 256 → t.cell r c =
        if r < s.size.toNat ∧ c < s.size.toNat then ⟨.unset, false⟩ else s.cell r c)

/-- `MXFIND` writes the three finders and their separators, as function cells, and no other cell
(42_matrix.md R142, R143). -/
def Obligations.MxFindEffect : Prop :=
  Sys2Proof.encode .mxfind = 0x31000000 ∧ (∀ s : State, CommonOutcomes .mxfind s) ∧
  ∀ s : State, s.phase = .alloc → 21 ≤ s.size.toNat → ∃ t, exec .mxfind s = .next t ∧
    t = { s with grid := t.grid, phase := .finders, responses := 0 :: s.responses } ∧
    ∀ r c, c < 256 → t.cell r c =
      match finderRegion s.size.toNat r c with
      | some colour => ⟨colour, true⟩
      | none => s.cell r c

/-- `MXTIME` writes row 6 and column 6 between the separators, dark at even index, as function cells, and no other
cell (42_matrix.md R145, R146). -/
def Obligations.MxTimeEffect : Prop :=
  Sys2Proof.encode .mxtime = 0x32000000 ∧ (∀ s : State, CommonOutcomes .mxtime s) ∧
  ∀ s : State, s.phase = .finders → ∃ t, exec .mxtime s = .next t ∧
    t = { s with grid := t.grid, phase := .timing, responses := 0 :: s.responses } ∧
    ∀ r c, c < 256 → t.cell r c =
      if r = 6 ∧ 8 ≤ c ∧ c + 9 ≤ s.size.toNat then ⟨if c % 2 = 0 then .dark else .light, true⟩
      else if c = 6 ∧ 8 ≤ r ∧ r + 9 ≤ s.size.toNat then ⟨if r % 2 = 0 then .dark else .light, true⟩
      else s.cell r c

/-- `MXALIGN` writes a 5 by 5 pattern about every centre of the version's table but the three that would overlap a
finder, as function cells, and no other cell (42_matrix.md R147, R149); the table is the spec's, version 1 to 40
(R148). -/
def Obligations.MxAlignEffect : Prop :=
  (List.range' 1 40).map alignCentres =
    [[], [6, 18], [6, 22], [6, 26], [6, 30], [6, 34], [6, 22, 38], [6, 24, 42], [6, 26, 46], [6, 28, 50]] ++
    [[6, 30, 54], [6, 32, 58], [6, 34, 62], [6, 26, 46, 66], [6, 26, 48, 70], [6, 26, 50, 74], [6, 30, 54, 78]] ++
    [[6, 30, 56, 82], [6, 30, 58, 86], [6, 34, 62, 90], [6, 28, 50, 72, 94], [6, 26, 50, 74, 98]] ++
    [[6, 30, 54, 78, 102], [6, 28, 54, 80, 106], [6, 32, 58, 84, 110], [6, 30, 58, 86, 114], [6, 34, 62, 90, 118]] ++
    [[6, 26, 50, 74, 98, 122], [6, 30, 54, 78, 102, 126], [6, 26, 52, 78, 104, 130], [6, 30, 56, 82, 108, 134]] ++
    [[6, 34, 60, 86, 112, 138], [6, 30, 58, 86, 114, 142], [6, 34, 62, 90, 118, 146]] ++
    [[6, 30, 54, 78, 102, 126, 150], [6, 24, 50, 76, 102, 128, 154], [6, 28, 54, 80, 106, 132, 158]] ++
    [[6, 32, 58, 84, 110, 136, 162], [6, 26, 54, 82, 110, 138, 166], [6, 30, 58, 86, 114, 142, 170]] ∧
  Sys2Proof.encode .mxalign = 0x33000000 ∧ (∀ s : State, CommonOutcomes .mxalign s) ∧
  ∀ s : State, s.phase = .timing → ∃ t, exec .mxalign s = .next t ∧
    t = { s with grid := t.grid, phase := .aligned, responses := 0 :: s.responses } ∧
    (∀ r0 c0 r c : Nat, IsAlignmentCentre s.version.toNat r0 c0 → |(r : Int) - r0| ≤ 2 → |(c : Int) - c0| ≤ 2 →
      t.cell r c = ⟨if max |(r : Int) - r0| |(c : Int) - c0| = 1 then .light else .dark, true⟩) ∧
    (∀ r c : Nat, c < 256 →
      (∀ r0 c0, IsAlignmentCentre s.version.toNat r0 c0 → ¬(|(r : Int) - r0| ≤ 2 ∧ |(c : Int) - c0| ≤ 2)) →
      t.cell r c = s.cell r c)

/-- `MXRSV` marks the format and version cells `Reserved`, writes the dark module, touches no other cell, and leaves
in `DCAP`, which it responds, the number of cells with `FN = 0` (42_matrix.md R150, R153). -/
def Obligations.MxRsvEffect : Prop :=
  Sys2Proof.encode .mxrsv = 0x34000000 ∧ (∀ s : State, CommonOutcomes .mxrsv s) ∧
  ∀ s : State, s.phase = .aligned → 21 ≤ s.size.toNat → s.size.toNat ≤ 177 → ∃ t, exec .mxrsv s = .next t ∧
    t = { s with grid := t.grid, dcap := t.dcap, phase := .reserved,
                 responses := BitVec.ofNat 32 t.dcap.toNat :: s.responses } ∧
    t.dcap.toNat = countData s.size.toNat t.grid ∧
    ∀ r c, c < 256 → t.cell r c =
      if (r, c) ∈ informationPositions s.version.toNat s.size.toNat then ⟨.reserved, true⟩
      else if (r, c) = (s.size.toNat - 8, 8) then ⟨.dark, true⟩
      else s.cell r c

/-- The cells of the format and version information (42_matrix.md R151, R152). -/
def Obligations.InformationCells : Prop :=
  (List.range 15).map formatCell1 =
    [(0, 8), (1, 8), (2, 8), (3, 8), (4, 8), (5, 8), (7, 8), (8, 8), (8, 7), (8, 5), (8, 4), (8, 3), (8, 2), (8, 1),
     (8, 0)] ∧
  ∀ n, 21 ≤ n →
    (List.range 15).map (formatCell2 n) =
      [(8, n - 1), (8, n - 2), (8, n - 3), (8, n - 4), (8, n - 5), (8, n - 6), (8, n - 7), (8, n - 8), (n - 7, 8),
       (n - 6, 8), (n - 5, 8), (n - 4, 8), (n - 3, 8), (n - 2, 8), (n - 1, 8)] ∧
    ∀ i, i < 18 → versionCell1 n i = (i / 3, n - 11 + i % 3) ∧ versionCell2 n i = (n - 11 + i % 3, i / 3)

/-- `MXDATA`: more bits than data cells raise `RangeError`; else bit `k` of the stream, most significant first in each
codeword, goes to `PATH[k]` as a dark or light module, the data cells after the last bit become light, and no other
cell changes (42_matrix.md R155, 20_memory.md R62). -/
def Obligations.MxDataEffect : Prop :=
  Sys2Proof.encode .mxdata = 0x35000000 ∧ (∀ s : State, CommonOutcomes .mxdata s) ∧
  ∀ s : State, s.phase = .reserved →
    (s.dcap.toNat < 8 * s.cwlen.toNat →
      exec .mxdata s = .next (s.faulted .rangeError (Sys2Proof.encode .mxdata))) ∧
    (8 * s.cwlen.toNat ≤ s.dcap.toNat → ∃ t, exec .mxdata s = .next t ∧
      t = { s with grid := t.grid, phase := .placed, responses := 0 :: s.responses } ∧
      (∀ k r c, k < s.dcap.toNat → (path s.size.toNat s.grid)[k]? = some (r, c) →
        t.cell r c = ⟨if k < 8 * s.cwlen.toNat ∧ (s.codeword (k / 8)).getLsbD (7 - k % 8) = true then .dark
          else .light, false⟩) ∧
      (∀ r c, c < 256 → (r, c) ∉ (path s.size.toNat s.grid).take s.dcap.toNat → t.cell r c = s.cell r c))

/-- `PATH` is the list that the loop of the spec builds, in its order: strips of two columns from the right edge, the
first one upward, the right cell of a row first, column 6 skipped, function cells stepped over. When `MXDATA` runs it
lists every data cell of the grid exactly once, and its length is `DCAP` (42_matrix.md R154). -/
def Obligations.PathListsDataCellsOnce : Prop :=
  (∀ (s : State) (passes : Nat), s.size.toNat ≤ passes →
    path s.size.toNat s.grid =
      pathLoop s.size.toNat (fun r c => (s.cell r c).fn) passes (s.size.toNat - 1) 0 []) ∧
  ∀ s : State, s.Inv → s.GridInv → s.phase = .reserved →
    (path s.size.toNat s.grid).length = s.dcap.toNat ∧ (path s.size.toNat s.grid).Nodup ∧
    ∀ r c, (r, c) ∈ path s.size.toNat s.grid ↔
      r < s.size.toNat ∧ c < s.size.toNat ∧ (s.cell r c).fn = false

/-- `MXBUILD` leaves exactly the state of the six commands issued one after the other, but for the responses; its
checks come before any state change (42_matrix.md R157). That the number of data cells in the second check is the `DCAP`
of the first five commands is the model's reading (log 12): the spec names the count of R158. -/
def Obligations.MxBuildIsSixCommands : Prop :=
  Sys2Proof.encode .mxbuild = 0x36000000 ∧ (∀ s : State, CommonOutcomes .mxbuild s) ∧
  ∀ s : State, s.phase = .idle →
    (s.version = 0 ∨ s.eclv = false →
      exec .mxbuild s = .next (s.faulted .sequenceError (Sys2Proof.encode .mxbuild))) ∧
    (s.version ≠ 0 → s.eclv = true →
      ((buildPatterns s).dcap.toNat < 8 * s.cwlen.toNat →
        exec .mxbuild s = .next (s.faulted .rangeError (Sys2Proof.encode .mxbuild))) ∧
      (8 * s.cwlen.toNat ≤ (buildPatterns s).dcap.toNat → ∃ t u, exec .mxbuild s = .next t ∧
        execAll [.mxinit, .mxfind, .mxtime, .mxalign, .mxrsv, .mxdata] s = .next u ∧
        t = { u with responses := BitVec.ofNat 32 u.dcap.toNat :: s.responses } ∧ t.phase = .placed))

/-- The number of data cells of each version is the closed form (42_matrix.md R158). -/
def Obligations.DataCellCounts : Prop :=
  ∀ s : State, 1 ≤ s.version.toNat → s.version.toNat ≤ 40 → s.size.toNat = 4 * s.version.toNat + 17 →
    Memory.wf unwrittenCell s.grid = true →
    (buildPatterns s).dcap.toNat = dataCellCount s.version.toNat

/-! ## Mask scorer and selector -/

/-- `MSKEVAL a`: the four rule scores and the dark count of candidate `a` go to the breakdown registers, their sum to
`PEN<a>`, `PENV[a]` is set, and neither the grid nor the phase changes (43_mask.md R182). The score that `MSKEVAL` and
`MSKSEL` record is that of `PenaltyRules` for the plane of `CandidateIsMaskedGrid`, on the grid of the state. -/
def Obligations.MskEvalEffect : Prop :=
  ∀ (a : Nat) (s : State),
    maskScore s a = scorePlane s.size.toNat (candidate a (gridRows s.size.toNat s.grid)) ∧
    Sys2Proof.encode (.mskeval a) = 0x40#8 ++ 0#16 ++ BitVec.ofNat 8 a ∧ CommonOutcomes (.mskeval a) s ∧
    (s.phase = .placed →
    (7 < a → exec (.mskeval a) s = .next (s.faulted .invalidParameter (Sys2Proof.encode (.mskeval a)))) ∧
    (a ≤ 7 → ∃ t v, exec (.mskeval a) s = .next t ∧
      t = { s with pen := t.pen, penv := t.penv, pensel := BitVec.ofNat 3 a,
                   pn1 := BitVec.ofNat 31 (maskScore s a).n1, pn2 := BitVec.ofNat 31 (maskScore s a).n2,
                   pn3 := BitVec.ofNat 31 (maskScore s a).n3, pn4 := BitVec.ofNat 31 (maskScore s a).n4,
                   darkcnt := BitVec.ofNat 15 (maskScore s a).dark,
                   responses := BitVec.ofNat 32 v.toNat :: s.responses } ∧
      v = BitVec.ofNat 31
        ((maskScore s a).n1 + (maskScore s a).n2 + (maskScore s a).n3 + (maskScore s a).n4) ∧
      (∀ m : Fin 8, t.pen[m] = if m.val = a then v else s.pen[m]) ∧
      (∀ m, m < 8 → t.penv.getLsbD m = (decide (m = a) || s.penv.getLsbD m))))

/-- `MSKSEL` scores all eight candidates from the grid before it is written, chooses the least mask whose total is the
minimum, records its breakdown, applies it, and responds it (43_mask.md R179, R183). -/
def Obligations.MskSelChoosesLeastMinimum : Prop :=
  Sys2Proof.encode .msksel = 0x41000000 ∧ (∀ s : State, CommonOutcomes .msksel s) ∧
  ∀ s : State, s.phase = .placed → ∃ t w, exec .msksel s = .next t ∧ w ≤ 7 ∧
    (∀ m, m ≤ 7 → (maskScore s w).total ≤ (maskScore s m).total) ∧
    (∀ m, m < w → (maskScore s w).total < (maskScore s m).total) ∧
    t = { s with grid := t.grid, phase := .masked, mask := BitVec.ofNat 3 w, pensel := BitVec.ofNat 3 w,
                 pen := t.pen, penv := 0xFF,
                 pn1 := BitVec.ofNat 31 (maskScore s w).n1, pn2 := BitVec.ofNat 31 (maskScore s w).n2,
                 pn3 := BitVec.ofNat 31 (maskScore s w).n3, pn4 := BitVec.ofNat 31 (maskScore s w).n4,
                 darkcnt := BitVec.ofNat 15 (maskScore s w).dark,
                 responses := BitVec.ofNat 32 w :: s.responses } ∧
    (∀ m : Fin 8, t.pen[m] = BitVec.ofNat 31 (maskScore s m.val).total) ∧ GridMasked w s t

/-- `MSKFORCE a` applies mask `a` and computes no penalty (43_mask.md R180, R184). -/
def Obligations.MskForceEffect : Prop :=
  ∀ (a : Nat) (s : State),
    Sys2Proof.encode (.mskforce a) = 0x42#8 ++ 0#16 ++ BitVec.ofNat 8 a ∧ CommonOutcomes (.mskforce a) s ∧
    (s.phase = .placed →
    (7 < a → exec (.mskforce a) s = .next (s.faulted .invalidParameter (Sys2Proof.encode (.mskforce a)))) ∧
    (a ≤ 7 → ∃ t, exec (.mskforce a) s = .next t ∧
      t = { s with grid := t.grid, phase := .masked, mask := BitVec.ofNat 3 a,
                   responses := BitVec.ofNat 32 a :: s.responses } ∧ GridMasked a s t))

/-- The eight mask formulas are those of the table (43_mask.md R170); candidate `m` is the square colour plane of the
grid, a cell dark when it is `Dark`, inverted in the data cells where the formula holds (R172); and after mask `m` is
applied, the dark cells of the grid are those of candidate `m` (R180). -/
def Obligations.CandidateIsMaskedGrid : Prop :=
  (∀ r c : Nat,
    (maskFormula 0 r c = true ↔ (r + c) % 2 = 0) ∧
    (maskFormula 1 r c = true ↔ r % 2 = 0) ∧
    (maskFormula 2 r c = true ↔ c % 3 = 0) ∧
    (maskFormula 3 r c = true ↔ (r + c) % 3 = 0) ∧
    (maskFormula 4 r c = true ↔ ((r / 2) + (c / 3)) % 2 = 0) ∧
    (maskFormula 5 r c = true ↔ ((r * c) % 2) + ((r * c) % 3) = 0) ∧
    (maskFormula 6 r c = true ↔ (((r * c) % 2) + ((r * c) % 3)) % 2 = 0) ∧
    (maskFormula 7 r c = true ↔ (((r + c) % 2) + ((r * c) % 3)) % 2 = 0)) ∧
  (∀ (m n : Nat) (g : Grid), Plane.Square n (candidate m (gridRows n g))) ∧
  (∀ (m : Nat) (s : State) (r c : Nat), r < s.size.toNat → c < s.size.toNat →
    ((candidate m (gridRows s.size.toNat s.grid)).at r c = true ↔
      if (s.cell r c).fn = false ∧ maskFormula m r c = true then (s.cell r c).st ≠ .dark
      else (s.cell r c).st = .dark)) ∧
  ∀ (m n : Nat) (g : Grid) (r c : Nat), n ≤ 256 → r < n → c < n →
    ((gridAt (applyMask m n g) r c).st = .dark ↔ ((candidate m (gridRows n g)).getD r []).getD c false = true)

/-- The four rule scores of a plane and its dark count are those of the spec: N1 by the loop over every row and
column, N2 three for each uniform 2 by 2 position, N3 forty for each window equal to `P1` or `P2`, N4 ten for each full
5% step, and their sum (43_mask.md R173 to R178). -/
def Obligations.PenaltyRules : Prop :=
  ∀ (n : Nat) (p : Plane), Plane.Square n p →
    (let lines := (List.range n).map (fun r => (List.range n).map fun k => p.at r k) ++
        (List.range n).map (fun c => (List.range n).map fun k => p.at k c)
     (scorePlane n p).n1 = (lines.map n1Loop).sum ∧
     (scorePlane n p).n3 = (lines.map fun x => 40 * (List.range (n - 10)).countP fun s =>
       (x.drop s).take 11 == [true, false, true, true, true, false, true, false, false, false, false] ||
       (x.drop s).take 11 == [false, false, false, false, true, false, true, true, true, false, true]).sum) ∧
    (scorePlane n p).n2 = 3 * (allCells (n - 1)).countP (fun q =>
      p.at q.1 q.2 == p.at q.1 (q.2 + 1) && p.at q.1 q.2 == p.at (q.1 + 1) q.2 &&
      p.at q.1 q.2 == p.at (q.1 + 1) (q.2 + 1)) ∧
    (scorePlane n p).dark = (allCells n).countP (fun q => p.at q.1 q.2) ∧
    (scorePlane n p).n4 = 10 * (|20 * ((scorePlane n p).dark : Int) - 10 * ((n * n : Nat) : Int)|.toNat / (n * n)) ∧
    (scorePlane n p).total = (scorePlane n p).n1 + (scorePlane n p).n2 + (scorePlane n p).n3 + (scorePlane n p).n4

/-- The bounds of the rule scores and of the total for every grid side (43_mask.md R181): no penalty is cut off by its
register. -/
def Obligations.PenaltyBounds : Prop :=
  ∀ (n : Nat) (p : Plane), 21 ≤ n → n ≤ 177 → Plane.Square n p →
    (scorePlane n p).n1 ≤ 2 * n * (n - 2) ∧ (scorePlane n p).n2 ≤ 3 * (n - 1) * (n - 1) ∧
    (scorePlane n p).n3 ≤ 40 * (2 * n * (n - 10)) ∧ (scorePlane n p).n4 ≤ 100 ∧
    (scorePlane n p).total ≤ 2519698 ∧ (scorePlane n p).dark ≤ n * n

/-- `FINAL` writes the format word into both format areas and, from version 7 on, the version word into both version
areas, keeps `FN`, touches no other cell, and responds the format word (43_mask.md R185). -/
def Obligations.FinalWritesInformation : Prop :=
  Sys2Proof.encode .final = 0x43000000 ∧ (∀ s : State, CommonOutcomes .final s) ∧
  ∀ s : State, s.phase = .masked → 21 ≤ s.size.toNat → ∃ t, exec .final s = .next t ∧
    t = { s with grid := t.grid, phase := .final,
                 responses := BitVec.ofNat 32 (formatWord s.ecl s.mask).toNat :: s.responses } ∧
    (∀ i, i < 15 → ∀ p ∈ [formatCell1 i, formatCell2 s.size.toNat i], t.cell p.1 p.2 =
      ⟨if (formatWord s.ecl s.mask).getLsbD i = true then .dark else .light, (s.cell p.1 p.2).fn⟩) ∧
    (7 ≤ s.version.toNat → ∀ i, i < 18 →
      ∀ p ∈ [versionCell1 s.size.toNat i, versionCell2 s.size.toNat i], t.cell p.1 p.2 =
        ⟨if (versionWord s.version).getLsbD i = true then .dark else .light, (s.cell p.1 p.2).fn⟩) ∧
    (∀ r c, c < 256 → (r, c) ∉ informationPositions s.version.toNat s.size.toNat → t.cell r c = s.cell r c)

/-- All 32 format words and all 34 version words (43_mask.md R187, R189). -/
def Obligations.FormatAndVersionWords : Prop :=
  (List.range 8).map (fun m => formatWord .l (BitVec.ofNat 3 m)) =
    [0x77C4, 0x72F3, 0x7DAA, 0x789D, 0x662F, 0x6318, 0x6C41, 0x6976] ∧
  (List.range 8).map (fun m => formatWord .m (BitVec.ofNat 3 m)) =
    [0x5412, 0x5125, 0x5E7C, 0x5B4B, 0x45F9, 0x40CE, 0x4F97, 0x4AA0] ∧
  (List.range 8).map (fun m => formatWord .q (BitVec.ofNat 3 m)) =
    [0x355F, 0x3068, 0x3F31, 0x3A06, 0x24B4, 0x2183, 0x2EDA, 0x2BED] ∧
  (List.range 8).map (fun m => formatWord .h (BitVec.ofNat 3 m)) =
    [0x1689, 0x13BE, 0x1CE7, 0x19D0, 0x0762, 0x0255, 0x0D0C, 0x083B] ∧
  (List.range' 7 34).map (fun v => versionWord (BitVec.ofNat 6 v)) =
    [0x07C94, 0x085BC, 0x09A99, 0x0A4D3, 0x0BBF6, 0x0C762, 0x0D847, 0x0E60D, 0x0F928, 0x10B78, 0x1145D, 0x12A17] ++
    [0x13532, 0x149A6, 0x15683, 0x168C9, 0x177EC, 0x18EC4, 0x191E1, 0x1AFAB, 0x1B08E, 0x1CC1A, 0x1D33F, 0x1ED75] ++
    [0x1F250, 0x209D5, 0x216F0, 0x228BA, 0x2379F, 0x24B0B, 0x2542E, 0x26A64, 0x27541, 0x28C69]

/-! ## System, configuration and access commands -/

/-- `NOP` changes nothing but gives the response 0; `SRESET` gives every control register its reset value; both in
every phase (44_system.md R200, R201). That `SRESET` leaves the arrays alone is the model's choice (log 3). -/
def Obligations.NopAndSreset : Prop :=
  ∀ s : State,
    Sys2Proof.encode .nop = 0x00000000 ∧ exec .nop s = .next (s.answered 0) ∧ Sys2Proof.encode .sreset = 0x01000000 ∧
    ∃ t, exec .sreset s = .next t ∧ t.RegistersAtReset ∧ t.responses = 0 :: s.responses ∧ t.pending = s.pending ∧
      t.gen = s.gen ∧ t.rem = s.rem ∧ t.cwbuf = s.cwbuf ∧ t.grid = s.grid

/-- `SETVER a` for `a` in 1 to 40 sets `VERSION` and `SIZE = 4*a + 17` and responds `SIZE`; any other `a` raises
`InvalidParameter` (44_system.md R202). -/
def Obligations.SetVersionEffect : Prop :=
  ∀ (a : Nat) (s : State),
    Sys2Proof.encode (.setver a) = 0x02#8 ++ 0#16 ++ BitVec.ofNat 8 a ∧ CommonOutcomes (.setver a) s ∧
    (s.phase = .idle →
    (1 ≤ a → a ≤ 40 → exec (.setver a) s = .next { s with
      version := BitVec.ofNat 6 a, size := BitVec.ofNat 8 (4 * a + 17),
      responses := BitVec.ofNat 32 (4 * a + 17) :: s.responses }) ∧
    (a < 1 ∨ 40 < a → exec (.setver a) s = .next (s.faulted .invalidParameter (Sys2Proof.encode (.setver a)))))

/-- `SETECL a` for `a` in 0 to 3 sets `ECL` to L, M, Q, H and `ECLV` to 1; a greater `a` raises `InvalidParameter`
(44_system.md R203). -/
def Obligations.SetLevelEffect : Prop :=
  ∀ s : State,
    (∀ a, Sys2Proof.encode (.setecl a) = 0x03#8 ++ 0#16 ++ BitVec.ofNat 8 a ∧ CommonOutcomes (.setecl a) s) ∧
    (s.phase = .idle →
    (∀ e ∈ [(0, Level.l), (1, Level.m), (2, Level.q), (3, Level.h)],
      exec (.setecl e.1) s = .next { s with ecl := e.2, eclv := true, responses := 0 :: s.responses }) ∧
    (∀ a, 3 < a → exec (.setecl a) s = .next (s.faulted .invalidParameter (Sys2Proof.encode (.setecl a)))))

/-- `RDREG n` responds the register of the table, `STATUS` packed from its fields, and changes nothing, in every
phase; an undefined number raises `RangeError`, and is refused in phase `ERROR` (10_state.md R22, R23, R24;
44_system.md R204). The numberings that `PHASE`, `EPHASE`, `ERR` and `ECL` are read in, and every fault response is
given in, are those of the spec: phases (10_state.md R25), error codes (60_exceptions.md R220), levels
(10_state.md R27). -/
def Obligations.ReadRegister : Prop :=
  [Phase.idle, .alloc, .finders, .timing, .aligned, .reserved, .placed, .masked, .final, .error].map Phase.code =
    [0, 1, 2, 3, 4, 5, 6, 7, 8, 15] ∧
  errCode none = 0 ∧ (∀ e, errCode (some e) = e.code) ∧
  [ErrorName.invalidParameter, .unencodableInput, .dataTooLarge, .messageTooLong, .illegalCommand, .sequenceError,
    .rangeError, .gfDomainError].map ErrorName.code = [1, 2, 3, 4, 5, 6, 7, 8] ∧
  [Level.l, .m, .q, .h].map Level.code = [0, 1, 2, 3] ∧
  ∀ s : State,
    (∀ a, Sys2Proof.encode (.rdreg a) = 0x04#8 ++ 0#16 ++ BitVec.ofNat 8 a) ∧
    (∀ e ∈
      [(0x00, 0x51524331),
       (0x01, s.phase.code + 16 * errCode s.err + 256 * s.ephase.code + 4096 * s.eclv.toNat + 65536 * s.penv.toNat),
       (0x02, s.version.toNat), (0x03, s.ecl.code), (0x04, s.size.toNat), (0x05, s.cwlen.toNat),
       (0x06, s.dcap.toNat), (0x07, s.nsym.toNat), (0x08, s.dlen.toNat), (0x09, s.mask.toNat), (0x0A, s.einfo.toNat)] ++
      [(0x10, s.pen[0].toNat), (0x11, s.pen[1].toNat), (0x12, s.pen[2].toNat), (0x13, s.pen[3].toNat),
       (0x14, s.pen[4].toNat), (0x15, s.pen[5].toNat), (0x16, s.pen[6].toNat), (0x17, s.pen[7].toNat)] ++
      [(0x18, s.pensel.toNat), (0x19, s.pn1.toNat), (0x1A, s.pn2.toNat), (0x1B, s.pn3.toNat), (0x1C, s.pn4.toNat),
       (0x1D, s.darkcnt.toNat)],
      exec (.rdreg e.1) s = .next (s.answered e.2)) ∧
    (∀ n, ¬(n ≤ 0x0A ∨ (0x10 ≤ n ∧ n ≤ 0x1D)) →
      exec (.rdreg n) s = .next (if s.phase = .error then s.refusedNow
        else s.faulted .rangeError (Sys2Proof.encode (.rdreg n))))

/-- `CWPUSH a` writes `CWBUF[CWLEN]`, counts, and responds the new `CWLEN`; no other entry and no other register
changes; a full buffer raises `RangeError` (44_system.md R205). -/
def Obligations.CodewordPush : Prop :=
  ∀ (a : Byte) (s : State),
    Sys2Proof.encode (.cwpush a) = 0x50#8 ++ 0#16 ++ a ∧ CommonOutcomes (.cwpush a) s ∧
    (s.phase.code ≤ 5 →
    (s.cwlen.toNat = 3706 → exec (.cwpush a) s = .next (s.faulted .rangeError (Sys2Proof.encode (.cwpush a)))) ∧
    (s.cwlen.toNat < 3706 → Memory.wf unwrittenCodeword s.cwbuf = true → ∃ t, exec (.cwpush a) s = .next t ∧
      t = { s with cwbuf := t.cwbuf, cwlen := t.cwlen,
                   responses := BitVec.ofNat 32 (s.cwlen.toNat + 1) :: s.responses } ∧
      t.cwlen.toNat = s.cwlen.toNat + 1 ∧ Memory.wf unwrittenCodeword t.cwbuf = true ∧
      ∀ k, t.codeword k = if k = s.cwlen.toNat then a else s.codeword k))

/-- `CWRD h` responds `CWBUF[h]` for `h < CWLEN` and raises `RangeError` at or above it (44_system.md R206). -/
def Obligations.CodewordRead : Prop :=
  ∀ (h : Nat) (s : State),
    Sys2Proof.encode (.cwrd h) = 0x51#8 ++ 0#8 ++ BitVec.ofNat 16 h ∧ RefusedInError (.cwrd h) s ∧
    (s.phase ≠ .error →
    (h < s.cwlen.toNat → exec (.cwrd h) s = .next (s.answered (s.codeword h).toNat)) ∧
    (s.cwlen.toNat ≤ h → exec (.cwrd h) s = .next (s.faulted .rangeError (Sys2Proof.encode (.cwrd h)))))

/-- `GRIDRD a, b` responds `{FN, ST}` of the cell inside the grid, in phases 1 to 8, with the numbering of the module
states of 10_state.md R44; outside the grid it raises `RangeError`, and in phase 0 `SequenceError` (44_system.md
R207). -/
def Obligations.GridRead : Prop :=
  ∀ (a b : Nat) (s : State),
    Sys2Proof.encode (.gridrd a b) = 0x52#8 ++ 0#8 ++ BitVec.ofNat 8 a ++ BitVec.ofNat 8 b ∧
    CommonOutcomes (.gridrd a b) s ∧
    (s.phase ≠ .error →
    (s.phase = .idle → exec (.gridrd a b) s = .next (s.faulted .sequenceError (Sys2Proof.encode (.gridrd a b)))) ∧
    (s.phase ≠ .idle → a < s.size.toNat → b < s.size.toNat → exec (.gridrd a b) s = .next (s.answered
      (4 * (s.cell a b).fn.toNat +
        match (s.cell a b).st with
        | .light => 0
        | .dark => 1
        | .unset => 2
        | .reserved => 3))) ∧
    (s.phase ≠ .idle → s.size.toNat ≤ a ∨ s.size.toNat ≤ b →
      exec (.gridrd a b) s = .next (s.faulted .rangeError (Sys2Proof.encode (.gridrd a b)))))
end

