-- ==== Sys2Proof/Laws/Memory.lean ====
section
/-! SUPPORT. The laws of the memory (20_memory.md R60, R69): a read after a write gives the value written, a write
leaves every other address alone, every operation keeps the canonical form, and equal contents are equal lists. -/

namespace Sys2Proof.Machine

variable {α : Type}

@[simp] theorem Memory.read_nil (d : α) (a : Nat) : Memory.read d [] a = d := rfl

@[simp] theorem Memory.read_cons (d : α) (k : Nat) (v : α) (m : Memory α) (a : Nat) :
    Memory.read d ((k, v) :: m) a = if k = a then v else Memory.read d m a := rfl

/-- A read below every listed address gives what an unlisted address reads as. -/
theorem Memory.read_of_lt [DecidableEq α] (d : α) (m : Memory α) (lo a : Nat)
    (h : Memory.wfFrom d lo m = true) (ha : a < lo) : Memory.read d m a = d := by
  induction m generalizing lo with
  | nil => rfl
  | cons e m ih =>
    obtain ⟨k, v⟩ := e
    simp only [Memory.wfFrom, Bool.and_eq_true, decide_eq_true_eq] at h
    rw [Memory.read_cons, if_neg (by omega), ih (k + 1) h.2 (by omega)]

theorem Memory.wfFrom_mono [DecidableEq α] (d : α) (m : Memory α) {lo lo' : Nat} (hle : lo' ≤ lo)
    (h : Memory.wfFrom d lo m = true) : Memory.wfFrom d lo' m = true := by
  cases m with
  | nil => rfl
  | cons e m =>
    simp only [Memory.wfFrom, Bool.and_eq_true, decide_eq_true_eq] at h ⊢
    exact ⟨⟨by omega, h.1.2⟩, h.2⟩

/-- A write leaves every other address alone, whatever the form of the list. -/
theorem Memory.read_write_other [DecidableEq α] (d : α) (m : Memory α) (a b : Nat) (v : α) (hab : b ≠ a) :
    Memory.read d (Memory.write d m a v) b = Memory.read d m b := by
  induction m with
  | nil => unfold Memory.write; split <;> simp [Ne.symm hab]
  | cons e m ih =>
    obtain ⟨k, w⟩ := e
    unfold Memory.write
    split
    · split <;> simp [Ne.symm hab]
    · split
      · next heq => subst heq; split <;> simp [Ne.symm hab]
      · simp [ih]

/-- A write of a listed value can be read back, whatever the form of the list. -/
theorem Memory.read_write_same_of_ne [DecidableEq α] (d : α) (m : Memory α) (a : Nat) (v : α) (hv : v ≠ d) :
    Memory.read d (Memory.write d m a v) a = v := by
  induction m with
  | nil => simp [Memory.write, hv]
  | cons e m ih =>
    obtain ⟨k, w⟩ := e
    unfold Memory.write
    split
    · simp
    · split
      · simp
      · next h => simp [Ne.symm h, ih]

theorem Memory.read_write_same_from [DecidableEq α] (d : α) (m : Memory α) (lo a : Nat) (v : α)
    (h : Memory.wfFrom d lo m = true) : Memory.read d (Memory.write d m a v) a = v := by
  by_cases hv : v = d
  · subst hv
    induction m generalizing lo with
    | nil => simp [Memory.write]
    | cons e m ih =>
      obtain ⟨k, w⟩ := e
      simp only [Memory.wfFrom, Bool.and_eq_true, decide_eq_true_eq] at h
      unfold Memory.write
      split
      · next hlt =>
        simp only [if_true, Memory.read_cons]
        rw [if_neg (by omega), Memory.read_of_lt v m (k + 1) a h.2 (by omega)]
      · split
        · next heq => subst heq; simpa using Memory.read_of_lt v m (a + 1) a h.2 (by omega)
        · next hne => simp [Ne.symm hne, ih (k + 1) h.2]
  · exact Memory.read_write_same_of_ne d m a v hv

/-- Read after write, on a memory in canonical form. -/
theorem Memory.read_write_same [DecidableEq α] (d : α) (m : Memory α) (a : Nat) (v : α)
    (h : Memory.wf d m = true) : Memory.read d (Memory.write d m a v) a = v :=
  Memory.read_write_same_from d m 0 a v h

/-- Both laws in one. -/
theorem Memory.read_write [DecidableEq α] (d : α) (m : Memory α) (a b : Nat) (v : α) (h : Memory.wf d m = true) :
    Memory.read d (Memory.write d m a v) b = if b = a then v else Memory.read d m b := by
  by_cases hab : b = a
  · subst hab; simp [Memory.read_write_same d m b v h]
  · simp [hab, Memory.read_write_other d m a b v hab]

theorem Memory.write_wfFrom [DecidableEq α] (d : α) (m : Memory α) (lo a : Nat) (v : α) (hlo : lo ≤ a)
    (h : Memory.wfFrom d lo m = true) : Memory.wfFrom d lo (Memory.write d m a v) = true := by
  induction m generalizing lo with
  | nil => unfold Memory.write; split <;> simp_all [Memory.wfFrom]
  | cons e m ih =>
    obtain ⟨k, w⟩ := e
    simp only [Memory.wfFrom, Bool.and_eq_true, decide_eq_true_eq] at h
    unfold Memory.write
    split
    · next hlt =>
      split
      · simp [Memory.wfFrom, h]
      · next hv =>
        have : a + 1 ≤ k := hlt
        simp_all [Memory.wfFrom]
    · split
      · next heq =>
        subst heq
        split
        · exact Memory.wfFrom_mono d m (by omega) h.2
        · next hv => simp_all [Memory.wfFrom]
      · next hge hne =>
        have := ih (k + 1) (by omega) h.2
        simp_all [Memory.wfFrom]

/-- A write keeps the canonical form. -/
theorem Memory.write_wf [DecidableEq α] (d : α) (m : Memory α) (a : Nat) (v : α) (h : Memory.wf d m = true) :
    Memory.wf d (Memory.write d m a v) = true :=
  Memory.write_wfFrom d m 0 a v (by omega) h

/-- A write lists no address but its own that was not listed before. -/
theorem Memory.mem_write [DecidableEq α] (d : α) (m : Memory α) (a : Nat) (v : α) (e : Nat × α)
    (h : e ∈ Memory.write d m a v) : e = (a, v) ∨ e ∈ m := by
  induction m with
  | nil => unfold Memory.write at h; split at h <;> simp_all
  | cons f m ih =>
    obtain ⟨k, w⟩ := f
    unfold Memory.write at h
    split at h
    · split at h <;> simp_all
    · split at h
      · split at h <;> (simp_all; try tauto)
      · rcases List.mem_cons.1 h with rfl | h
        · simp
        · rcases ih h with rfl | h <;> simp [*]

/-- A write below the bound keeps the list below the bound. -/
theorem Memory.write_below [DecidableEq α] (d : α) (m : Memory α) (bound a : Nat) (v : α) (ha : a < bound)
    (h : Memory.below bound m = true) : Memory.below bound (Memory.write d m a v) = true := by
  simp only [Memory.below, List.all_eq_true, decide_eq_true_eq] at h ⊢
  intro e he
  rcases Memory.mem_write d m a v e he with rfl | he
  · exact ha
  · exact h e he

/-- An address that reads differently from an unlisted one is listed. -/
theorem Memory.mem_of_read_ne (d : α) (m : Memory α) (a : Nat) (h : Memory.read d m a ≠ d) :
    (a, Memory.read d m a) ∈ m := by
  induction m with
  | nil => exact absurd rfl h
  | cons e m ih =>
    obtain ⟨k, v⟩ := e
    rw [Memory.read_cons] at h ⊢
    by_cases hk : k = a
    · subst hk; simp
    · rw [if_neg hk] at h ⊢; exact List.mem_cons_of_mem _ (ih h)

/-- A listed entry of a canonical memory is what its address reads as. -/
theorem Memory.read_of_mem [DecidableEq α] (d : α) (m : Memory α) (lo : Nat) (h : Memory.wfFrom d lo m = true)
    (k : Nat) (v : α) (he : (k, v) ∈ m) : lo ≤ k ∧ v ≠ d ∧ Memory.read d m k = v := by
  induction m generalizing lo with
  | nil => simp at he
  | cons e m ih =>
    obtain ⟨j, w⟩ := e
    simp only [Memory.wfFrom, Bool.and_eq_true, decide_eq_true_eq, Bool.not_eq_true', decide_eq_false_iff_not] at h
    rcases List.mem_cons.1 he with heq | he
    · cases heq; exact ⟨h.1.1, h.1.2, by simp⟩
    · obtain ⟨hj, hv, hr⟩ := ih (j + 1) h.2 he
      exact ⟨by omega, hv, by rw [Memory.read_cons, if_neg (by omega), hr]⟩

/-- Canonical memories with the same contents are the same list. -/
theorem Memory.ext_of_wf [DecidableEq α] (d : α) (m m' : Memory α) (h : Memory.wf d m = true)
    (h' : Memory.wf d m' = true) (heq : ∀ a, Memory.read d m a = Memory.read d m' a) : m = m' := by
  unfold Memory.wf at h h'
  generalize hlo : 0 = lo at h h'
  clear hlo
  induction m generalizing m' lo with
  | nil =>
    cases m' with
    | nil => rfl
    | cons e m' =>
      obtain ⟨k, v⟩ := e
      have := (Memory.read_of_mem d _ lo h' k v (by simp))
      exact absurd (this.2.2.symm.trans (heq k).symm) (by simpa using this.2.1)
  | cons e m ih =>
    obtain ⟨k, v⟩ := e
    cases m' with
    | nil =>
      have := (Memory.read_of_mem d _ lo h k v (by simp))
      exact absurd (this.2.2.symm.trans (heq k)) (by simpa using this.2.1)
    | cons e' m' =>
      obtain ⟨k', v'⟩ := e'
      simp only [Memory.wfFrom, Bool.and_eq_true, decide_eq_true_eq, Bool.not_eq_true', decide_eq_false_iff_not] at h h'
      have hk : k = k' := by
        rcases Nat.lt_trichotomy k k' with hlt | rfl | hgt
        · have := heq k
          rw [Memory.read_cons, Memory.read_cons, if_pos rfl, if_neg (by omega),
            Memory.read_of_lt d m' (k' + 1) k h'.2 (by omega)] at this
          exact absurd this h.1.2
        · rfl
        · have := heq k'
          rw [Memory.read_cons, Memory.read_cons, if_pos rfl, if_neg (by omega),
            Memory.read_of_lt d m (k + 1) k' h.2 (by omega)] at this
          exact absurd this.symm h'.1.2
      subst hk
      have hv : v = v' := by simpa using heq k
      subst hv
      congr 1
      refine ih m' (fun a => ?_) (k + 1) h.2 h'.2
      by_cases ha : a ≤ k
      · rw [Memory.read_of_lt d m (k + 1) a h.2 (by omega), Memory.read_of_lt d m' (k + 1) a h'.2 (by omega)]
      · simpa [show k ≠ a by omega] using heq a

end Sys2Proof.Machine
end

