-- ==== Sys2Proof/Laws/State.lean ====
section
/-! SUPPORT. One lemma for each field under each named update of the state, true by `rfl` (after unfolding): a proof rewrites with
them and never unfolds a record update. -/

namespace Sys2Proof.Machine

/-! ## `State.resetRegisters` -/

@[simp] theorem State.resetRegisters_phase (s : State) :
    s.resetRegisters.phase = .idle := rfl
@[simp] theorem State.resetRegisters_err (s : State) :
    s.resetRegisters.err = none := rfl
@[simp] theorem State.resetRegisters_ephase (s : State) :
    s.resetRegisters.ephase = .idle := rfl
@[simp] theorem State.resetRegisters_eclv (s : State) :
    s.resetRegisters.eclv = false := rfl
@[simp] theorem State.resetRegisters_penv (s : State) :
    s.resetRegisters.penv = 0 := rfl
@[simp] theorem State.resetRegisters_version (s : State) :
    s.resetRegisters.version = 0 := rfl
@[simp] theorem State.resetRegisters_ecl (s : State) :
    s.resetRegisters.ecl = .l := rfl
@[simp] theorem State.resetRegisters_size (s : State) :
    s.resetRegisters.size = 0 := rfl
@[simp] theorem State.resetRegisters_cwlen (s : State) :
    s.resetRegisters.cwlen = 0 := rfl
@[simp] theorem State.resetRegisters_dcap (s : State) :
    s.resetRegisters.dcap = 0 := rfl
@[simp] theorem State.resetRegisters_nsym (s : State) :
    s.resetRegisters.nsym = 0 := rfl
@[simp] theorem State.resetRegisters_dlen (s : State) :
    s.resetRegisters.dlen = 0 := rfl
@[simp] theorem State.resetRegisters_mask (s : State) :
    s.resetRegisters.mask = 0 := rfl
@[simp] theorem State.resetRegisters_einfo (s : State) :
    s.resetRegisters.einfo = 0 := rfl
@[simp] theorem State.resetRegisters_pen (s : State) :
    s.resetRegisters.pen = Vector.replicate 8 0 := rfl
@[simp] theorem State.resetRegisters_pensel (s : State) :
    s.resetRegisters.pensel = 0 := rfl
@[simp] theorem State.resetRegisters_pn1 (s : State) :
    s.resetRegisters.pn1 = 0 := rfl
@[simp] theorem State.resetRegisters_pn2 (s : State) :
    s.resetRegisters.pn2 = 0 := rfl
@[simp] theorem State.resetRegisters_pn3 (s : State) :
    s.resetRegisters.pn3 = 0 := rfl
@[simp] theorem State.resetRegisters_pn4 (s : State) :
    s.resetRegisters.pn4 = 0 := rfl
@[simp] theorem State.resetRegisters_darkcnt (s : State) :
    s.resetRegisters.darkcnt = 0 := rfl
@[simp] theorem State.resetRegisters_gen (s : State) :
    s.resetRegisters.gen = s.gen := rfl
@[simp] theorem State.resetRegisters_rem (s : State) :
    s.resetRegisters.rem = s.rem := rfl
@[simp] theorem State.resetRegisters_cwbuf (s : State) :
    s.resetRegisters.cwbuf = s.cwbuf := rfl
@[simp] theorem State.resetRegisters_grid (s : State) :
    s.resetRegisters.grid = s.grid := rfl
@[simp] theorem State.resetRegisters_pending (s : State) :
    s.resetRegisters.pending = s.pending := rfl
@[simp] theorem State.resetRegisters_responses (s : State) :
    s.resetRegisters.responses = s.responses := rfl

/-! ## `State.setCodeword` -/

@[simp] theorem State.setCodeword_phase (s : State) (k : Nat) (v : Byte) :
    (s.setCodeword k v).phase = s.phase := rfl
@[simp] theorem State.setCodeword_err (s : State) (k : Nat) (v : Byte) :
    (s.setCodeword k v).err = s.err := rfl
@[simp] theorem State.setCodeword_ephase (s : State) (k : Nat) (v : Byte) :
    (s.setCodeword k v).ephase = s.ephase := rfl
@[simp] theorem State.setCodeword_eclv (s : State) (k : Nat) (v : Byte) :
    (s.setCodeword k v).eclv = s.eclv := rfl
@[simp] theorem State.setCodeword_penv (s : State) (k : Nat) (v : Byte) :
    (s.setCodeword k v).penv = s.penv := rfl
@[simp] theorem State.setCodeword_version (s : State) (k : Nat) (v : Byte) :
    (s.setCodeword k v).version = s.version := rfl
@[simp] theorem State.setCodeword_ecl (s : State) (k : Nat) (v : Byte) :
    (s.setCodeword k v).ecl = s.ecl := rfl
@[simp] theorem State.setCodeword_size (s : State) (k : Nat) (v : Byte) :
    (s.setCodeword k v).size = s.size := rfl
@[simp] theorem State.setCodeword_cwlen (s : State) (k : Nat) (v : Byte) :
    (s.setCodeword k v).cwlen = s.cwlen := rfl
@[simp] theorem State.setCodeword_dcap (s : State) (k : Nat) (v : Byte) :
    (s.setCodeword k v).dcap = s.dcap := rfl
@[simp] theorem State.setCodeword_nsym (s : State) (k : Nat) (v : Byte) :
    (s.setCodeword k v).nsym = s.nsym := rfl
@[simp] theorem State.setCodeword_dlen (s : State) (k : Nat) (v : Byte) :
    (s.setCodeword k v).dlen = s.dlen := rfl
@[simp] theorem State.setCodeword_mask (s : State) (k : Nat) (v : Byte) :
    (s.setCodeword k v).mask = s.mask := rfl
@[simp] theorem State.setCodeword_einfo (s : State) (k : Nat) (v : Byte) :
    (s.setCodeword k v).einfo = s.einfo := rfl
@[simp] theorem State.setCodeword_pen (s : State) (k : Nat) (v : Byte) :
    (s.setCodeword k v).pen = s.pen := rfl
@[simp] theorem State.setCodeword_pensel (s : State) (k : Nat) (v : Byte) :
    (s.setCodeword k v).pensel = s.pensel := rfl
@[simp] theorem State.setCodeword_pn1 (s : State) (k : Nat) (v : Byte) :
    (s.setCodeword k v).pn1 = s.pn1 := rfl
@[simp] theorem State.setCodeword_pn2 (s : State) (k : Nat) (v : Byte) :
    (s.setCodeword k v).pn2 = s.pn2 := rfl
@[simp] theorem State.setCodeword_pn3 (s : State) (k : Nat) (v : Byte) :
    (s.setCodeword k v).pn3 = s.pn3 := rfl
@[simp] theorem State.setCodeword_pn4 (s : State) (k : Nat) (v : Byte) :
    (s.setCodeword k v).pn4 = s.pn4 := rfl
@[simp] theorem State.setCodeword_darkcnt (s : State) (k : Nat) (v : Byte) :
    (s.setCodeword k v).darkcnt = s.darkcnt := rfl
@[simp] theorem State.setCodeword_gen (s : State) (k : Nat) (v : Byte) :
    (s.setCodeword k v).gen = s.gen := rfl
@[simp] theorem State.setCodeword_rem (s : State) (k : Nat) (v : Byte) :
    (s.setCodeword k v).rem = s.rem := rfl
@[simp] theorem State.setCodeword_cwbuf (s : State) (k : Nat) (v : Byte) :
    (s.setCodeword k v).cwbuf = Memory.write unwrittenCodeword s.cwbuf k v := rfl
@[simp] theorem State.setCodeword_grid (s : State) (k : Nat) (v : Byte) :
    (s.setCodeword k v).grid = s.grid := rfl
@[simp] theorem State.setCodeword_pending (s : State) (k : Nat) (v : Byte) :
    (s.setCodeword k v).pending = s.pending := rfl
@[simp] theorem State.setCodeword_responses (s : State) (k : Nat) (v : Byte) :
    (s.setCodeword k v).responses = s.responses := rfl

/-! ## `allocGrid` -/

@[simp] theorem allocGrid_phase (s : State) :
    (allocGrid s).phase = .alloc := rfl
@[simp] theorem allocGrid_err (s : State) :
    (allocGrid s).err = s.err := rfl
@[simp] theorem allocGrid_ephase (s : State) :
    (allocGrid s).ephase = s.ephase := rfl
@[simp] theorem allocGrid_eclv (s : State) :
    (allocGrid s).eclv = s.eclv := rfl
@[simp] theorem allocGrid_penv (s : State) :
    (allocGrid s).penv = s.penv := rfl
@[simp] theorem allocGrid_version (s : State) :
    (allocGrid s).version = s.version := rfl
@[simp] theorem allocGrid_ecl (s : State) :
    (allocGrid s).ecl = s.ecl := rfl
@[simp] theorem allocGrid_size (s : State) :
    (allocGrid s).size = s.size := rfl
@[simp] theorem allocGrid_cwlen (s : State) :
    (allocGrid s).cwlen = s.cwlen := rfl
@[simp] theorem allocGrid_dcap (s : State) :
    (allocGrid s).dcap = s.dcap := rfl
@[simp] theorem allocGrid_nsym (s : State) :
    (allocGrid s).nsym = s.nsym := rfl
@[simp] theorem allocGrid_dlen (s : State) :
    (allocGrid s).dlen = s.dlen := rfl
@[simp] theorem allocGrid_mask (s : State) :
    (allocGrid s).mask = s.mask := rfl
@[simp] theorem allocGrid_einfo (s : State) :
    (allocGrid s).einfo = s.einfo := rfl
@[simp] theorem allocGrid_pen (s : State) :
    (allocGrid s).pen = s.pen := rfl
@[simp] theorem allocGrid_pensel (s : State) :
    (allocGrid s).pensel = s.pensel := rfl
@[simp] theorem allocGrid_pn1 (s : State) :
    (allocGrid s).pn1 = s.pn1 := rfl
@[simp] theorem allocGrid_pn2 (s : State) :
    (allocGrid s).pn2 = s.pn2 := rfl
@[simp] theorem allocGrid_pn3 (s : State) :
    (allocGrid s).pn3 = s.pn3 := rfl
@[simp] theorem allocGrid_pn4 (s : State) :
    (allocGrid s).pn4 = s.pn4 := rfl
@[simp] theorem allocGrid_darkcnt (s : State) :
    (allocGrid s).darkcnt = s.darkcnt := rfl
@[simp] theorem allocGrid_gen (s : State) :
    (allocGrid s).gen = s.gen := rfl
@[simp] theorem allocGrid_rem (s : State) :
    (allocGrid s).rem = s.rem := rfl
@[simp] theorem allocGrid_cwbuf (s : State) :
    (allocGrid s).cwbuf = s.cwbuf := rfl
@[simp] theorem allocGrid_grid (s : State) :
    (allocGrid s).grid = (allCells s.size.toNat).foldl (fun g p => setCell g p.1 p.2 ⟨.unset, false⟩) s.grid := rfl
@[simp] theorem allocGrid_pending (s : State) :
    (allocGrid s).pending = s.pending := rfl
@[simp] theorem allocGrid_responses (s : State) :
    (allocGrid s).responses = s.responses := rfl

/-! ## `placeFinders` -/

@[simp] theorem placeFinders_phase (s : State) :
    (placeFinders s).phase = .finders := rfl
@[simp] theorem placeFinders_err (s : State) :
    (placeFinders s).err = s.err := rfl
@[simp] theorem placeFinders_ephase (s : State) :
    (placeFinders s).ephase = s.ephase := rfl
@[simp] theorem placeFinders_eclv (s : State) :
    (placeFinders s).eclv = s.eclv := rfl
@[simp] theorem placeFinders_penv (s : State) :
    (placeFinders s).penv = s.penv := rfl
@[simp] theorem placeFinders_version (s : State) :
    (placeFinders s).version = s.version := rfl
@[simp] theorem placeFinders_ecl (s : State) :
    (placeFinders s).ecl = s.ecl := rfl
@[simp] theorem placeFinders_size (s : State) :
    (placeFinders s).size = s.size := rfl
@[simp] theorem placeFinders_cwlen (s : State) :
    (placeFinders s).cwlen = s.cwlen := rfl
@[simp] theorem placeFinders_dcap (s : State) :
    (placeFinders s).dcap = s.dcap := rfl
@[simp] theorem placeFinders_nsym (s : State) :
    (placeFinders s).nsym = s.nsym := rfl
@[simp] theorem placeFinders_dlen (s : State) :
    (placeFinders s).dlen = s.dlen := rfl
@[simp] theorem placeFinders_mask (s : State) :
    (placeFinders s).mask = s.mask := rfl
@[simp] theorem placeFinders_einfo (s : State) :
    (placeFinders s).einfo = s.einfo := rfl
@[simp] theorem placeFinders_pen (s : State) :
    (placeFinders s).pen = s.pen := rfl
@[simp] theorem placeFinders_pensel (s : State) :
    (placeFinders s).pensel = s.pensel := rfl
@[simp] theorem placeFinders_pn1 (s : State) :
    (placeFinders s).pn1 = s.pn1 := rfl
@[simp] theorem placeFinders_pn2 (s : State) :
    (placeFinders s).pn2 = s.pn2 := rfl
@[simp] theorem placeFinders_pn3 (s : State) :
    (placeFinders s).pn3 = s.pn3 := rfl
@[simp] theorem placeFinders_pn4 (s : State) :
    (placeFinders s).pn4 = s.pn4 := rfl
@[simp] theorem placeFinders_darkcnt (s : State) :
    (placeFinders s).darkcnt = s.darkcnt := rfl
@[simp] theorem placeFinders_gen (s : State) :
    (placeFinders s).gen = s.gen := rfl
@[simp] theorem placeFinders_rem (s : State) :
    (placeFinders s).rem = s.rem := rfl
@[simp] theorem placeFinders_cwbuf (s : State) :
    (placeFinders s).cwbuf = s.cwbuf := rfl
@[simp] theorem placeFinders_grid (s : State) :
    (placeFinders s).grid = setfAll s.grid (allFinderCells s.size.toNat) := rfl
@[simp] theorem placeFinders_pending (s : State) :
    (placeFinders s).pending = s.pending := rfl
@[simp] theorem placeFinders_responses (s : State) :
    (placeFinders s).responses = s.responses := rfl

/-! ## `placeTiming` -/

@[simp] theorem placeTiming_phase (s : State) :
    (placeTiming s).phase = .timing := rfl
@[simp] theorem placeTiming_err (s : State) :
    (placeTiming s).err = s.err := rfl
@[simp] theorem placeTiming_ephase (s : State) :
    (placeTiming s).ephase = s.ephase := rfl
@[simp] theorem placeTiming_eclv (s : State) :
    (placeTiming s).eclv = s.eclv := rfl
@[simp] theorem placeTiming_penv (s : State) :
    (placeTiming s).penv = s.penv := rfl
@[simp] theorem placeTiming_version (s : State) :
    (placeTiming s).version = s.version := rfl
@[simp] theorem placeTiming_ecl (s : State) :
    (placeTiming s).ecl = s.ecl := rfl
@[simp] theorem placeTiming_size (s : State) :
    (placeTiming s).size = s.size := rfl
@[simp] theorem placeTiming_cwlen (s : State) :
    (placeTiming s).cwlen = s.cwlen := rfl
@[simp] theorem placeTiming_dcap (s : State) :
    (placeTiming s).dcap = s.dcap := rfl
@[simp] theorem placeTiming_nsym (s : State) :
    (placeTiming s).nsym = s.nsym := rfl
@[simp] theorem placeTiming_dlen (s : State) :
    (placeTiming s).dlen = s.dlen := rfl
@[simp] theorem placeTiming_mask (s : State) :
    (placeTiming s).mask = s.mask := rfl
@[simp] theorem placeTiming_einfo (s : State) :
    (placeTiming s).einfo = s.einfo := rfl
@[simp] theorem placeTiming_pen (s : State) :
    (placeTiming s).pen = s.pen := rfl
@[simp] theorem placeTiming_pensel (s : State) :
    (placeTiming s).pensel = s.pensel := rfl
@[simp] theorem placeTiming_pn1 (s : State) :
    (placeTiming s).pn1 = s.pn1 := rfl
@[simp] theorem placeTiming_pn2 (s : State) :
    (placeTiming s).pn2 = s.pn2 := rfl
@[simp] theorem placeTiming_pn3 (s : State) :
    (placeTiming s).pn3 = s.pn3 := rfl
@[simp] theorem placeTiming_pn4 (s : State) :
    (placeTiming s).pn4 = s.pn4 := rfl
@[simp] theorem placeTiming_darkcnt (s : State) :
    (placeTiming s).darkcnt = s.darkcnt := rfl
@[simp] theorem placeTiming_gen (s : State) :
    (placeTiming s).gen = s.gen := rfl
@[simp] theorem placeTiming_rem (s : State) :
    (placeTiming s).rem = s.rem := rfl
@[simp] theorem placeTiming_cwbuf (s : State) :
    (placeTiming s).cwbuf = s.cwbuf := rfl
@[simp] theorem placeTiming_grid (s : State) :
    (placeTiming s).grid = setfAll s.grid (timingCells s.size.toNat) := rfl
@[simp] theorem placeTiming_pending (s : State) :
    (placeTiming s).pending = s.pending := rfl
@[simp] theorem placeTiming_responses (s : State) :
    (placeTiming s).responses = s.responses := rfl

/-! ## `placeAlignment` -/

@[simp] theorem placeAlignment_phase (s : State) :
    (placeAlignment s).phase = .aligned := rfl
@[simp] theorem placeAlignment_err (s : State) :
    (placeAlignment s).err = s.err := rfl
@[simp] theorem placeAlignment_ephase (s : State) :
    (placeAlignment s).ephase = s.ephase := rfl
@[simp] theorem placeAlignment_eclv (s : State) :
    (placeAlignment s).eclv = s.eclv := rfl
@[simp] theorem placeAlignment_penv (s : State) :
    (placeAlignment s).penv = s.penv := rfl
@[simp] theorem placeAlignment_version (s : State) :
    (placeAlignment s).version = s.version := rfl
@[simp] theorem placeAlignment_ecl (s : State) :
    (placeAlignment s).ecl = s.ecl := rfl
@[simp] theorem placeAlignment_size (s : State) :
    (placeAlignment s).size = s.size := rfl
@[simp] theorem placeAlignment_cwlen (s : State) :
    (placeAlignment s).cwlen = s.cwlen := rfl
@[simp] theorem placeAlignment_dcap (s : State) :
    (placeAlignment s).dcap = s.dcap := rfl
@[simp] theorem placeAlignment_nsym (s : State) :
    (placeAlignment s).nsym = s.nsym := rfl
@[simp] theorem placeAlignment_dlen (s : State) :
    (placeAlignment s).dlen = s.dlen := rfl
@[simp] theorem placeAlignment_mask (s : State) :
    (placeAlignment s).mask = s.mask := rfl
@[simp] theorem placeAlignment_einfo (s : State) :
    (placeAlignment s).einfo = s.einfo := rfl
@[simp] theorem placeAlignment_pen (s : State) :
    (placeAlignment s).pen = s.pen := rfl
@[simp] theorem placeAlignment_pensel (s : State) :
    (placeAlignment s).pensel = s.pensel := rfl
@[simp] theorem placeAlignment_pn1 (s : State) :
    (placeAlignment s).pn1 = s.pn1 := rfl
@[simp] theorem placeAlignment_pn2 (s : State) :
    (placeAlignment s).pn2 = s.pn2 := rfl
@[simp] theorem placeAlignment_pn3 (s : State) :
    (placeAlignment s).pn3 = s.pn3 := rfl
@[simp] theorem placeAlignment_pn4 (s : State) :
    (placeAlignment s).pn4 = s.pn4 := rfl
@[simp] theorem placeAlignment_darkcnt (s : State) :
    (placeAlignment s).darkcnt = s.darkcnt := rfl
@[simp] theorem placeAlignment_gen (s : State) :
    (placeAlignment s).gen = s.gen := rfl
@[simp] theorem placeAlignment_rem (s : State) :
    (placeAlignment s).rem = s.rem := rfl
@[simp] theorem placeAlignment_cwbuf (s : State) :
    (placeAlignment s).cwbuf = s.cwbuf := rfl
@[simp] theorem placeAlignment_grid (s : State) :
    (placeAlignment s).grid = setfAll s.grid (alignCells s.version.toNat) := rfl
@[simp] theorem placeAlignment_pending (s : State) :
    (placeAlignment s).pending = s.pending := rfl
@[simp] theorem placeAlignment_responses (s : State) :
    (placeAlignment s).responses = s.responses := rfl

/-! ## `reserveAreas` -/

@[simp] theorem reserveAreas_phase (s : State) :
    (reserveAreas s).phase = .reserved := rfl
@[simp] theorem reserveAreas_err (s : State) :
    (reserveAreas s).err = s.err := rfl
@[simp] theorem reserveAreas_ephase (s : State) :
    (reserveAreas s).ephase = s.ephase := rfl
@[simp] theorem reserveAreas_eclv (s : State) :
    (reserveAreas s).eclv = s.eclv := rfl
@[simp] theorem reserveAreas_penv (s : State) :
    (reserveAreas s).penv = s.penv := rfl
@[simp] theorem reserveAreas_version (s : State) :
    (reserveAreas s).version = s.version := rfl
@[simp] theorem reserveAreas_ecl (s : State) :
    (reserveAreas s).ecl = s.ecl := rfl
@[simp] theorem reserveAreas_size (s : State) :
    (reserveAreas s).size = s.size := rfl
@[simp] theorem reserveAreas_cwlen (s : State) :
    (reserveAreas s).cwlen = s.cwlen := rfl
@[simp] theorem reserveAreas_dcap (s : State) :
    (reserveAreas s).dcap = BitVec.ofNat 15 (countData s.size.toNat (reserveAreas s).grid) := by
  simp only [reserveAreas]
@[simp] theorem reserveAreas_nsym (s : State) :
    (reserveAreas s).nsym = s.nsym := rfl
@[simp] theorem reserveAreas_dlen (s : State) :
    (reserveAreas s).dlen = s.dlen := rfl
@[simp] theorem reserveAreas_mask (s : State) :
    (reserveAreas s).mask = s.mask := rfl
@[simp] theorem reserveAreas_einfo (s : State) :
    (reserveAreas s).einfo = s.einfo := rfl
@[simp] theorem reserveAreas_pen (s : State) :
    (reserveAreas s).pen = s.pen := rfl
@[simp] theorem reserveAreas_pensel (s : State) :
    (reserveAreas s).pensel = s.pensel := rfl
@[simp] theorem reserveAreas_pn1 (s : State) :
    (reserveAreas s).pn1 = s.pn1 := rfl
@[simp] theorem reserveAreas_pn2 (s : State) :
    (reserveAreas s).pn2 = s.pn2 := rfl
@[simp] theorem reserveAreas_pn3 (s : State) :
    (reserveAreas s).pn3 = s.pn3 := rfl
@[simp] theorem reserveAreas_pn4 (s : State) :
    (reserveAreas s).pn4 = s.pn4 := rfl
@[simp] theorem reserveAreas_darkcnt (s : State) :
    (reserveAreas s).darkcnt = s.darkcnt := rfl
@[simp] theorem reserveAreas_gen (s : State) :
    (reserveAreas s).gen = s.gen := rfl
@[simp] theorem reserveAreas_rem (s : State) :
    (reserveAreas s).rem = s.rem := rfl
@[simp] theorem reserveAreas_cwbuf (s : State) :
    (reserveAreas s).cwbuf = s.cwbuf := rfl
@[simp] theorem reserveAreas_grid (s : State) :
    (reserveAreas s).grid = setfAll s.grid (reservedCells s.version.toNat s.size.toNat) := by
  simp only [reserveAreas]
@[simp] theorem reserveAreas_pending (s : State) :
    (reserveAreas s).pending = s.pending := rfl
@[simp] theorem reserveAreas_responses (s : State) :
    (reserveAreas s).responses = s.responses := rfl

/-! ## `placeData` -/

@[simp] theorem placeData_phase (s : State) :
    (placeData s).phase = .placed := rfl
@[simp] theorem placeData_err (s : State) :
    (placeData s).err = s.err := rfl
@[simp] theorem placeData_ephase (s : State) :
    (placeData s).ephase = s.ephase := rfl
@[simp] theorem placeData_eclv (s : State) :
    (placeData s).eclv = s.eclv := rfl
@[simp] theorem placeData_penv (s : State) :
    (placeData s).penv = s.penv := rfl
@[simp] theorem placeData_version (s : State) :
    (placeData s).version = s.version := rfl
@[simp] theorem placeData_ecl (s : State) :
    (placeData s).ecl = s.ecl := rfl
@[simp] theorem placeData_size (s : State) :
    (placeData s).size = s.size := rfl
@[simp] theorem placeData_cwlen (s : State) :
    (placeData s).cwlen = s.cwlen := rfl
@[simp] theorem placeData_dcap (s : State) :
    (placeData s).dcap = s.dcap := rfl
@[simp] theorem placeData_nsym (s : State) :
    (placeData s).nsym = s.nsym := rfl
@[simp] theorem placeData_dlen (s : State) :
    (placeData s).dlen = s.dlen := rfl
@[simp] theorem placeData_mask (s : State) :
    (placeData s).mask = s.mask := rfl
@[simp] theorem placeData_einfo (s : State) :
    (placeData s).einfo = s.einfo := rfl
@[simp] theorem placeData_pen (s : State) :
    (placeData s).pen = s.pen := rfl
@[simp] theorem placeData_pensel (s : State) :
    (placeData s).pensel = s.pensel := rfl
@[simp] theorem placeData_pn1 (s : State) :
    (placeData s).pn1 = s.pn1 := rfl
@[simp] theorem placeData_pn2 (s : State) :
    (placeData s).pn2 = s.pn2 := rfl
@[simp] theorem placeData_pn3 (s : State) :
    (placeData s).pn3 = s.pn3 := rfl
@[simp] theorem placeData_pn4 (s : State) :
    (placeData s).pn4 = s.pn4 := rfl
@[simp] theorem placeData_darkcnt (s : State) :
    (placeData s).darkcnt = s.darkcnt := rfl
@[simp] theorem placeData_gen (s : State) :
    (placeData s).gen = s.gen := rfl
@[simp] theorem placeData_rem (s : State) :
    (placeData s).rem = s.rem := rfl
@[simp] theorem placeData_cwbuf (s : State) :
    (placeData s).cwbuf = s.cwbuf := rfl
@[simp] theorem placeData_grid (s : State) :
    (placeData s).grid = setStAll s.grid (dataCells s) := rfl
@[simp] theorem placeData_pending (s : State) :
    (placeData s).pending = s.pending := rfl
@[simp] theorem placeData_responses (s : State) :
    (placeData s).responses = s.responses := rfl

/-! ## `writeBreakdown` -/

@[simp] theorem writeBreakdown_phase (m : Nat) (x : Score) (s : State) :
    (writeBreakdown m x s).phase = s.phase := rfl
@[simp] theorem writeBreakdown_err (m : Nat) (x : Score) (s : State) :
    (writeBreakdown m x s).err = s.err := rfl
@[simp] theorem writeBreakdown_ephase (m : Nat) (x : Score) (s : State) :
    (writeBreakdown m x s).ephase = s.ephase := rfl
@[simp] theorem writeBreakdown_eclv (m : Nat) (x : Score) (s : State) :
    (writeBreakdown m x s).eclv = s.eclv := rfl
@[simp] theorem writeBreakdown_penv (m : Nat) (x : Score) (s : State) :
    (writeBreakdown m x s).penv = s.penv := rfl
@[simp] theorem writeBreakdown_version (m : Nat) (x : Score) (s : State) :
    (writeBreakdown m x s).version = s.version := rfl
@[simp] theorem writeBreakdown_ecl (m : Nat) (x : Score) (s : State) :
    (writeBreakdown m x s).ecl = s.ecl := rfl
@[simp] theorem writeBreakdown_size (m : Nat) (x : Score) (s : State) :
    (writeBreakdown m x s).size = s.size := rfl
@[simp] theorem writeBreakdown_cwlen (m : Nat) (x : Score) (s : State) :
    (writeBreakdown m x s).cwlen = s.cwlen := rfl
@[simp] theorem writeBreakdown_dcap (m : Nat) (x : Score) (s : State) :
    (writeBreakdown m x s).dcap = s.dcap := rfl
@[simp] theorem writeBreakdown_nsym (m : Nat) (x : Score) (s : State) :
    (writeBreakdown m x s).nsym = s.nsym := rfl
@[simp] theorem writeBreakdown_dlen (m : Nat) (x : Score) (s : State) :
    (writeBreakdown m x s).dlen = s.dlen := rfl
@[simp] theorem writeBreakdown_mask (m : Nat) (x : Score) (s : State) :
    (writeBreakdown m x s).mask = s.mask := rfl
@[simp] theorem writeBreakdown_einfo (m : Nat) (x : Score) (s : State) :
    (writeBreakdown m x s).einfo = s.einfo := rfl
@[simp] theorem writeBreakdown_pen (m : Nat) (x : Score) (s : State) :
    (writeBreakdown m x s).pen = s.pen := rfl
@[simp] theorem writeBreakdown_pensel (m : Nat) (x : Score) (s : State) :
    (writeBreakdown m x s).pensel = BitVec.ofNat 3 m := rfl
@[simp] theorem writeBreakdown_pn1 (m : Nat) (x : Score) (s : State) :
    (writeBreakdown m x s).pn1 = valueOfNat x.n1 := rfl
@[simp] theorem writeBreakdown_pn2 (m : Nat) (x : Score) (s : State) :
    (writeBreakdown m x s).pn2 = valueOfNat x.n2 := rfl
@[simp] theorem writeBreakdown_pn3 (m : Nat) (x : Score) (s : State) :
    (writeBreakdown m x s).pn3 = valueOfNat x.n3 := rfl
@[simp] theorem writeBreakdown_pn4 (m : Nat) (x : Score) (s : State) :
    (writeBreakdown m x s).pn4 = valueOfNat x.n4 := rfl
@[simp] theorem writeBreakdown_darkcnt (m : Nat) (x : Score) (s : State) :
    (writeBreakdown m x s).darkcnt = BitVec.ofNat 15 x.dark := rfl
@[simp] theorem writeBreakdown_gen (m : Nat) (x : Score) (s : State) :
    (writeBreakdown m x s).gen = s.gen := rfl
@[simp] theorem writeBreakdown_rem (m : Nat) (x : Score) (s : State) :
    (writeBreakdown m x s).rem = s.rem := rfl
@[simp] theorem writeBreakdown_cwbuf (m : Nat) (x : Score) (s : State) :
    (writeBreakdown m x s).cwbuf = s.cwbuf := rfl
@[simp] theorem writeBreakdown_grid (m : Nat) (x : Score) (s : State) :
    (writeBreakdown m x s).grid = s.grid := rfl
@[simp] theorem writeBreakdown_pending (m : Nat) (x : Score) (s : State) :
    (writeBreakdown m x s).pending = s.pending := rfl
@[simp] theorem writeBreakdown_responses (m : Nat) (x : Score) (s : State) :
    (writeBreakdown m x s).responses = s.responses := rfl

/-! ## `chooseMask` -/

@[simp] theorem chooseMask_phase (m : Nat) (s : State) :
    (chooseMask m s).phase = .masked := rfl
@[simp] theorem chooseMask_err (m : Nat) (s : State) :
    (chooseMask m s).err = s.err := rfl
@[simp] theorem chooseMask_ephase (m : Nat) (s : State) :
    (chooseMask m s).ephase = s.ephase := rfl
@[simp] theorem chooseMask_eclv (m : Nat) (s : State) :
    (chooseMask m s).eclv = s.eclv := rfl
@[simp] theorem chooseMask_penv (m : Nat) (s : State) :
    (chooseMask m s).penv = s.penv := rfl
@[simp] theorem chooseMask_version (m : Nat) (s : State) :
    (chooseMask m s).version = s.version := rfl
@[simp] theorem chooseMask_ecl (m : Nat) (s : State) :
    (chooseMask m s).ecl = s.ecl := rfl
@[simp] theorem chooseMask_size (m : Nat) (s : State) :
    (chooseMask m s).size = s.size := rfl
@[simp] theorem chooseMask_cwlen (m : Nat) (s : State) :
    (chooseMask m s).cwlen = s.cwlen := rfl
@[simp] theorem chooseMask_dcap (m : Nat) (s : State) :
    (chooseMask m s).dcap = s.dcap := rfl
@[simp] theorem chooseMask_nsym (m : Nat) (s : State) :
    (chooseMask m s).nsym = s.nsym := rfl
@[simp] theorem chooseMask_dlen (m : Nat) (s : State) :
    (chooseMask m s).dlen = s.dlen := rfl
@[simp] theorem chooseMask_mask (m : Nat) (s : State) :
    (chooseMask m s).mask = BitVec.ofNat 3 m := rfl
@[simp] theorem chooseMask_einfo (m : Nat) (s : State) :
    (chooseMask m s).einfo = s.einfo := rfl
@[simp] theorem chooseMask_pen (m : Nat) (s : State) :
    (chooseMask m s).pen = s.pen := rfl
@[simp] theorem chooseMask_pensel (m : Nat) (s : State) :
    (chooseMask m s).pensel = s.pensel := rfl
@[simp] theorem chooseMask_pn1 (m : Nat) (s : State) :
    (chooseMask m s).pn1 = s.pn1 := rfl
@[simp] theorem chooseMask_pn2 (m : Nat) (s : State) :
    (chooseMask m s).pn2 = s.pn2 := rfl
@[simp] theorem chooseMask_pn3 (m : Nat) (s : State) :
    (chooseMask m s).pn3 = s.pn3 := rfl
@[simp] theorem chooseMask_pn4 (m : Nat) (s : State) :
    (chooseMask m s).pn4 = s.pn4 := rfl
@[simp] theorem chooseMask_darkcnt (m : Nat) (s : State) :
    (chooseMask m s).darkcnt = s.darkcnt := rfl
@[simp] theorem chooseMask_gen (m : Nat) (s : State) :
    (chooseMask m s).gen = s.gen := rfl
@[simp] theorem chooseMask_rem (m : Nat) (s : State) :
    (chooseMask m s).rem = s.rem := rfl
@[simp] theorem chooseMask_cwbuf (m : Nat) (s : State) :
    (chooseMask m s).cwbuf = s.cwbuf := rfl
@[simp] theorem chooseMask_grid (m : Nat) (s : State) :
    (chooseMask m s).grid = applyMask m s.size.toNat s.grid := rfl
@[simp] theorem chooseMask_pending (m : Nat) (s : State) :
    (chooseMask m s).pending = s.pending := rfl
@[simp] theorem chooseMask_responses (m : Nat) (s : State) :
    (chooseMask m s).responses = s.responses := rfl

/-! ## `State.faulted` -/

@[simp] theorem State.faulted_phase (s : State) (e : ErrorName) (w : Word) :
    (s.faulted e w).phase = .error := rfl
@[simp] theorem State.faulted_err (s : State) (e : ErrorName) (w : Word) :
    (s.faulted e w).err = some e := rfl
@[simp] theorem State.faulted_ephase (s : State) (e : ErrorName) (w : Word) :
    (s.faulted e w).ephase = s.phase := rfl
@[simp] theorem State.faulted_eclv (s : State) (e : ErrorName) (w : Word) :
    (s.faulted e w).eclv = s.eclv := rfl
@[simp] theorem State.faulted_penv (s : State) (e : ErrorName) (w : Word) :
    (s.faulted e w).penv = s.penv := rfl
@[simp] theorem State.faulted_version (s : State) (e : ErrorName) (w : Word) :
    (s.faulted e w).version = s.version := rfl
@[simp] theorem State.faulted_ecl (s : State) (e : ErrorName) (w : Word) :
    (s.faulted e w).ecl = s.ecl := rfl
@[simp] theorem State.faulted_size (s : State) (e : ErrorName) (w : Word) :
    (s.faulted e w).size = s.size := rfl
@[simp] theorem State.faulted_cwlen (s : State) (e : ErrorName) (w : Word) :
    (s.faulted e w).cwlen = s.cwlen := rfl
@[simp] theorem State.faulted_dcap (s : State) (e : ErrorName) (w : Word) :
    (s.faulted e w).dcap = s.dcap := rfl
@[simp] theorem State.faulted_nsym (s : State) (e : ErrorName) (w : Word) :
    (s.faulted e w).nsym = s.nsym := rfl
@[simp] theorem State.faulted_dlen (s : State) (e : ErrorName) (w : Word) :
    (s.faulted e w).dlen = s.dlen := rfl
@[simp] theorem State.faulted_mask (s : State) (e : ErrorName) (w : Word) :
    (s.faulted e w).mask = s.mask := rfl
@[simp] theorem State.faulted_einfo (s : State) (e : ErrorName) (w : Word) :
    (s.faulted e w).einfo = w.extractLsb' 0 31 := rfl
@[simp] theorem State.faulted_pen (s : State) (e : ErrorName) (w : Word) :
    (s.faulted e w).pen = s.pen := rfl
@[simp] theorem State.faulted_pensel (s : State) (e : ErrorName) (w : Word) :
    (s.faulted e w).pensel = s.pensel := rfl
@[simp] theorem State.faulted_pn1 (s : State) (e : ErrorName) (w : Word) :
    (s.faulted e w).pn1 = s.pn1 := rfl
@[simp] theorem State.faulted_pn2 (s : State) (e : ErrorName) (w : Word) :
    (s.faulted e w).pn2 = s.pn2 := rfl
@[simp] theorem State.faulted_pn3 (s : State) (e : ErrorName) (w : Word) :
    (s.faulted e w).pn3 = s.pn3 := rfl
@[simp] theorem State.faulted_pn4 (s : State) (e : ErrorName) (w : Word) :
    (s.faulted e w).pn4 = s.pn4 := rfl
@[simp] theorem State.faulted_darkcnt (s : State) (e : ErrorName) (w : Word) :
    (s.faulted e w).darkcnt = s.darkcnt := rfl
@[simp] theorem State.faulted_gen (s : State) (e : ErrorName) (w : Word) :
    (s.faulted e w).gen = s.gen := rfl
@[simp] theorem State.faulted_rem (s : State) (e : ErrorName) (w : Word) :
    (s.faulted e w).rem = s.rem := rfl
@[simp] theorem State.faulted_cwbuf (s : State) (e : ErrorName) (w : Word) :
    (s.faulted e w).cwbuf = s.cwbuf := rfl
@[simp] theorem State.faulted_grid (s : State) (e : ErrorName) (w : Word) :
    (s.faulted e w).grid = s.grid := rfl
@[simp] theorem State.faulted_pending (s : State) (e : ErrorName) (w : Word) :
    (s.faulted e w).pending = s.pending := rfl
@[simp] theorem State.faulted_responses (s : State) (e : ErrorName) (w : Word) :
    (s.faulted e w).responses = faultResponse e.code :: s.responses := rfl

/-! ## `State.answered` -/

@[simp] theorem State.answered_phase (s : State) (v : Nat) :
    (s.answered v).phase = s.phase := rfl
@[simp] theorem State.answered_err (s : State) (v : Nat) :
    (s.answered v).err = s.err := rfl
@[simp] theorem State.answered_ephase (s : State) (v : Nat) :
    (s.answered v).ephase = s.ephase := rfl
@[simp] theorem State.answered_eclv (s : State) (v : Nat) :
    (s.answered v).eclv = s.eclv := rfl
@[simp] theorem State.answered_penv (s : State) (v : Nat) :
    (s.answered v).penv = s.penv := rfl
@[simp] theorem State.answered_version (s : State) (v : Nat) :
    (s.answered v).version = s.version := rfl
@[simp] theorem State.answered_ecl (s : State) (v : Nat) :
    (s.answered v).ecl = s.ecl := rfl
@[simp] theorem State.answered_size (s : State) (v : Nat) :
    (s.answered v).size = s.size := rfl
@[simp] theorem State.answered_cwlen (s : State) (v : Nat) :
    (s.answered v).cwlen = s.cwlen := rfl
@[simp] theorem State.answered_dcap (s : State) (v : Nat) :
    (s.answered v).dcap = s.dcap := rfl
@[simp] theorem State.answered_nsym (s : State) (v : Nat) :
    (s.answered v).nsym = s.nsym := rfl
@[simp] theorem State.answered_dlen (s : State) (v : Nat) :
    (s.answered v).dlen = s.dlen := rfl
@[simp] theorem State.answered_mask (s : State) (v : Nat) :
    (s.answered v).mask = s.mask := rfl
@[simp] theorem State.answered_einfo (s : State) (v : Nat) :
    (s.answered v).einfo = s.einfo := rfl
@[simp] theorem State.answered_pen (s : State) (v : Nat) :
    (s.answered v).pen = s.pen := rfl
@[simp] theorem State.answered_pensel (s : State) (v : Nat) :
    (s.answered v).pensel = s.pensel := rfl
@[simp] theorem State.answered_pn1 (s : State) (v : Nat) :
    (s.answered v).pn1 = s.pn1 := rfl
@[simp] theorem State.answered_pn2 (s : State) (v : Nat) :
    (s.answered v).pn2 = s.pn2 := rfl
@[simp] theorem State.answered_pn3 (s : State) (v : Nat) :
    (s.answered v).pn3 = s.pn3 := rfl
@[simp] theorem State.answered_pn4 (s : State) (v : Nat) :
    (s.answered v).pn4 = s.pn4 := rfl
@[simp] theorem State.answered_darkcnt (s : State) (v : Nat) :
    (s.answered v).darkcnt = s.darkcnt := rfl
@[simp] theorem State.answered_gen (s : State) (v : Nat) :
    (s.answered v).gen = s.gen := rfl
@[simp] theorem State.answered_rem (s : State) (v : Nat) :
    (s.answered v).rem = s.rem := rfl
@[simp] theorem State.answered_cwbuf (s : State) (v : Nat) :
    (s.answered v).cwbuf = s.cwbuf := rfl
@[simp] theorem State.answered_grid (s : State) (v : Nat) :
    (s.answered v).grid = s.grid := rfl
@[simp] theorem State.answered_pending (s : State) (v : Nat) :
    (s.answered v).pending = s.pending := rfl
@[simp] theorem State.answered_responses (s : State) (v : Nat) :
    (s.answered v).responses = BitVec.ofNat 32 v :: s.responses := rfl

/-! ## `State.refusedNow` -/

@[simp] theorem State.refusedNow_phase (s : State) :
    s.refusedNow.phase = s.phase := rfl
@[simp] theorem State.refusedNow_err (s : State) :
    s.refusedNow.err = s.err := rfl
@[simp] theorem State.refusedNow_ephase (s : State) :
    s.refusedNow.ephase = s.ephase := rfl
@[simp] theorem State.refusedNow_eclv (s : State) :
    s.refusedNow.eclv = s.eclv := rfl
@[simp] theorem State.refusedNow_penv (s : State) :
    s.refusedNow.penv = s.penv := rfl
@[simp] theorem State.refusedNow_version (s : State) :
    s.refusedNow.version = s.version := rfl
@[simp] theorem State.refusedNow_ecl (s : State) :
    s.refusedNow.ecl = s.ecl := rfl
@[simp] theorem State.refusedNow_size (s : State) :
    s.refusedNow.size = s.size := rfl
@[simp] theorem State.refusedNow_cwlen (s : State) :
    s.refusedNow.cwlen = s.cwlen := rfl
@[simp] theorem State.refusedNow_dcap (s : State) :
    s.refusedNow.dcap = s.dcap := rfl
@[simp] theorem State.refusedNow_nsym (s : State) :
    s.refusedNow.nsym = s.nsym := rfl
@[simp] theorem State.refusedNow_dlen (s : State) :
    s.refusedNow.dlen = s.dlen := rfl
@[simp] theorem State.refusedNow_mask (s : State) :
    s.refusedNow.mask = s.mask := rfl
@[simp] theorem State.refusedNow_einfo (s : State) :
    s.refusedNow.einfo = s.einfo := rfl
@[simp] theorem State.refusedNow_pen (s : State) :
    s.refusedNow.pen = s.pen := rfl
@[simp] theorem State.refusedNow_pensel (s : State) :
    s.refusedNow.pensel = s.pensel := rfl
@[simp] theorem State.refusedNow_pn1 (s : State) :
    s.refusedNow.pn1 = s.pn1 := rfl
@[simp] theorem State.refusedNow_pn2 (s : State) :
    s.refusedNow.pn2 = s.pn2 := rfl
@[simp] theorem State.refusedNow_pn3 (s : State) :
    s.refusedNow.pn3 = s.pn3 := rfl
@[simp] theorem State.refusedNow_pn4 (s : State) :
    s.refusedNow.pn4 = s.pn4 := rfl
@[simp] theorem State.refusedNow_darkcnt (s : State) :
    s.refusedNow.darkcnt = s.darkcnt := rfl
@[simp] theorem State.refusedNow_gen (s : State) :
    s.refusedNow.gen = s.gen := rfl
@[simp] theorem State.refusedNow_rem (s : State) :
    s.refusedNow.rem = s.rem := rfl
@[simp] theorem State.refusedNow_cwbuf (s : State) :
    s.refusedNow.cwbuf = s.cwbuf := rfl
@[simp] theorem State.refusedNow_grid (s : State) :
    s.refusedNow.grid = s.grid := rfl
@[simp] theorem State.refusedNow_pending (s : State) :
    s.refusedNow.pending = s.pending := rfl
@[simp] theorem State.refusedNow_responses (s : State) :
    s.refusedNow.responses = faultResponse (errCode s.err) :: s.responses := rfl

/-! ## The array and grid reads depend on their own fields alone -/

theorem State.cell_eq (s : State) (r c : Nat) : s.cell r c = gridAt s.grid r c := rfl

theorem State.codeword_eq (s : State) (k : Nat) : s.codeword k = Memory.read unwrittenCodeword s.cwbuf k := rfl

theorem State.genAt_congr {s t : State} (h : s.gen = t.gen) (k : Nat) : s.genAt k = t.genAt k := by
  simp [State.genAt, h]

theorem State.remAt_congr {s t : State} (h : s.rem = t.rem) (k : Nat) : s.remAt k = t.remAt k := by
  simp [State.remAt, h]

theorem State.cell_congr {s t : State} (h : s.grid = t.grid) (r c : Nat) : s.cell r c = t.cell r c := by
  simp [State.cell, h]

theorem State.codeword_congr {s t : State} (h : s.cwbuf = t.cwbuf) (k : Nat) : s.codeword k = t.codeword k := by
  simp [State.codeword, h]

/-- The score of a candidate depends on the size and the grid alone. -/
theorem maskScore_congr {s t : State} (hn : s.size = t.size) (hg : s.grid = t.grid) (m : Nat) :
    maskScore s m = maskScore t m := by
  simp [maskScore, hn, hg]

end Sys2Proof.Machine
end

