-- ==== Sys2Proof/Laws/Ops.lean ====
section
/-! SUPPORT. One lemma for each shared operation that says everything it does: the responses and the faults, the
phase check, the writes of the grid and of the codeword buffer. -/

namespace Sys2Proof.Machine

/-! ## Responses and faults -/

theorem errorWord_eq (e : Option ErrorName) :
    errorWord (errCode e) = faultResponse (errCode e) := by
  rcases e with _ | e
  · decide
  · cases e <;> decide

theorem faultResponse_msb (e : Option ErrorName) : (faultResponse (errCode e)).msb = true := by
  rcases e with _ | e
  · decide
  · cases e <;> decide

theorem successWord_eq (v : Value) : successWord v = BitVec.ofNat 32 v.toNat := by
  apply BitVec.eq_of_toNat_eq
  have := v.isLt
  rw [successWord, BitVec.toNat_append]
  simp
  omega

theorem successWord_msb (v : Value) : (BitVec.ofNat 32 v.toNat).msb = false := by
  have := v.isLt
  rw [BitVec.msb_eq_false_iff_two_mul_lt, BitVec.toNat_ofNat]
  omega

theorem valueOf_toNat {n : Nat} (h : n ≤ 31) (v : BitVec n) : (valueOf v).toNat = v.toNat := by
  have h2 : v.toNat < 2 ^ 31 := lt_of_lt_of_le v.isLt (Nat.pow_le_pow_right (by omega) h)
  rw [valueOf, BitVec.toNat_setWidth, Nat.mod_eq_of_lt h2]

theorem valueOfNat_toNat {n : Nat} (h : n < 2 ^ 31) : (valueOfNat n).toNat = n := by
  rw [valueOfNat, BitVec.toNat_ofNat, Nat.mod_eq_of_lt h]

/-- `respond v` answers the state with the response `v` and nothing else changed. -/
theorem respond_eq (v : Value) (s : State) : respond v s = .next (s.answered v.toNat) := by
  simp only [respond, State.answered, successWord_eq]

/-- `raise e` answers the faulted state. -/
theorem raise_eq (e : ErrorName) (w : Word) (s : State) : raise e w s = .next (s.faulted e w) := by
  have h : errorWord e.code = faultResponse e.code := errorWord_eq (some e)
  have h2 : w.setWidth 31 = w.extractLsb' 0 31 := by
    apply BitVec.eq_of_toNat_eq; simp
  simp only [raise, State.faulted, h, h2]

/-- A refusal answers the state with one response and nothing else changed. -/
theorem refuse_eq (s : State) : refuse s = .next s.refusedNow := by
  simp only [refuse, State.refusedNow, errorWord_eq]

theorem raiseOrRefuse_eq (e : ErrorName) (w : Word) (s : State) :
    raiseOrRefuse e w s = .next (if s.phase = .error then s.refusedNow else s.faulted e w) := by
  unfold raiseOrRefuse
  split <;> simp [refuse_eq, raise_eq]

/-! ## The phase check -/

theorem gated_of_error {i : Instr} {s : State} {body : Result} (h : s.phase = .error) :
    gated i s body = .next s.refusedNow := by
  simp [gated, h, refuse_eq]

theorem gated_of_not_accepted {i : Instr} {s : State} {body : Result} (h : s.phase ≠ .error)
    (ha : accepted i s.phase = false) : gated i s body = .next (s.faulted .sequenceError (encode i)) := by
  simp [gated, h, ha, raise_eq]

theorem gated_of_accepted {i : Instr} {s : State} {body : Result} (h : s.phase ≠ .error)
    (ha : accepted i s.phase = true) : gated i s body = body := by
  simp [gated, h, ha]

/-- Everything the phase check can answer. -/
theorem gated_cases {i : Instr} {s t : State} {body : Result} (h : gated i s body = .next t) :
    (s.phase = .error ∧ t = s.refusedNow) ∨
    (s.phase ≠ .error ∧ accepted i s.phase = false ∧ t = s.faulted .sequenceError (encode i)) ∨
    (s.phase ≠ .error ∧ accepted i s.phase = true ∧ body = .next t) := by
  by_cases he : s.phase = .error
  · rw [gated_of_error he] at h; cases h; exact .inl ⟨he, rfl⟩
  · cases ha : accepted i s.phase
    · rw [gated_of_not_accepted he ha] at h; cases h; exact .inr (.inl ⟨he, rfl, rfl⟩)
    · rw [gated_of_accepted he ha] at h; exact .inr (.inr ⟨he, rfl, h⟩)

/-- The accepted phases as the phase table of the spec writes them. -/
theorem accepted_iff (i : Instr) (p : Phase) :
    accepted i p = true ↔ p.code ∈ acceptedCodes i := by
  cases i <;> cases p <;> simp [accepted, acceptedCodes, Phase.code]

/-! ## The grid -/

/-- Every address is the address of one pair `(r, c)` with `c < 256`. -/
theorem cellAddr_inj {r c r' c' : Nat} (h : c < 256) (h' : c' < 256) :
    cellAddr r c = cellAddr r' c' ↔ r = r' ∧ c = c' := by
  unfold cellAddr; omega

theorem gridAt_setCell_other {g : Grid} {r c r' c' : Nat} (v : GridCell) (h : cellAddr r' c' ≠ cellAddr r c) :
    gridAt (setCell g r c v) r' c' = gridAt g r' c' :=
  Memory.read_write_other _ _ _ _ _ h

theorem gridAt_setCell_same {g : Grid} (hg : Memory.wf unwrittenCell g = true) (r c : Nat) (v : GridCell) :
    gridAt (setCell g r c v) r c = v :=
  Memory.read_write_same _ _ _ _ hg

/-- A function cell, or any cell that is not the unwritten one, is read back whatever the form of the list. -/
theorem gridAt_setCell_same_of_ne (g : Grid) (r c : Nat) {v : GridCell} (hv : v ≠ unwrittenCell) :
    gridAt (setCell g r c v) r c = v :=
  Memory.read_write_same_of_ne _ _ _ _ hv

theorem setCell_wf {g : Grid} (hg : Memory.wf unwrittenCell g = true) (r c : Nat) (v : GridCell) :
    Memory.wf unwrittenCell (setCell g r c v) = true :=
  Memory.write_wf _ _ _ _ hg

theorem gridAt_setf_same (g : Grid) (r c : Nat) (v : ModuleState) : gridAt (setf g r c v) r c = ⟨v, true⟩ :=
  gridAt_setCell_same_of_ne g r c (by simp [unwrittenCell])

theorem gridAt_setf_other {g : Grid} {r c r' c' : Nat} (v : ModuleState) (h : cellAddr r' c' ≠ cellAddr r c) :
    gridAt (setf g r c v) r' c' = gridAt g r' c' :=
  gridAt_setCell_other _ h

@[simp] theorem setfAll_nil (g : Grid) : setfAll g [] = g := rfl

@[simp] theorem setfAll_cons (g : Grid) (e : Pos × ModuleState) (cells : List (Pos × ModuleState)) :
    setfAll g (e :: cells) = setfAll (setf g e.1.1 e.1.2 e.2) cells := rfl

theorem setfAll_append (g : Grid) (xs ys : List (Pos × ModuleState)) :
    setfAll g (xs ++ ys) = setfAll (setfAll g xs) ys := by
  simp [setfAll, List.foldl_append]

/-- `setfAll` leaves every cell alone that is not in the list. -/
theorem gridAt_setfAll_other (g : Grid) (cells : List (Pos × ModuleState)) (r c : Nat)
    (h : ∀ e ∈ cells, cellAddr r c ≠ cellAddr e.1.1 e.1.2) : gridAt (setfAll g cells) r c = gridAt g r c := by
  induction cells generalizing g with
  | nil => rfl
  | cons e cells ih =>
    rw [setfAll_cons, ih _ fun x hx => h x (List.mem_cons_of_mem _ hx),
      gridAt_setf_other _ (h e List.mem_cons_self)]

/-- `setfAll` leaves in a cell of the list the state the list gives it, where the list gives it one state only. -/
theorem gridAt_setfAll_mem (g : Grid) (cells : List (Pos × ModuleState)) (r c : Nat) (v : ModuleState)
    (hmem : ((r, c), v) ∈ cells)
    (hone : ∀ e ∈ cells, cellAddr r c = cellAddr e.1.1 e.1.2 → e.2 = v) :
    gridAt (setfAll g cells) r c = ⟨v, true⟩ := by
  induction cells generalizing g with
  | nil => simp at hmem
  | cons e cells ih =>
    rw [setfAll_cons]
    by_cases hlater : ∃ x ∈ cells, cellAddr r c = cellAddr x.1.1 x.1.2 ∧ ((r, c), v) ∈ cells
    · obtain ⟨_, _, _, hm⟩ := hlater
      exact ih _ hm fun x hx => hone x (List.mem_cons_of_mem _ hx)
    · have hnot : ((r, c), v) ∉ cells := fun hm => hlater ⟨_, hm, rfl, hm⟩
      have he : e = ((r, c), v) := by
        rcases List.mem_cons.1 hmem with h | h
        · exact h.symm
        · exact absurd h hnot
      subst he
      by_cases hagain : ∃ x ∈ cells, cellAddr r c = cellAddr x.1.1 x.1.2
      · -- a later entry for the same address writes the same state
        clear ih hlater hmem
        have key : ∀ (xs : List (Pos × ModuleState)) (g' : Grid), gridAt g' r c = ⟨v, true⟩ →
            (∀ x ∈ xs, cellAddr r c = cellAddr x.1.1 x.1.2 → x.2 = v) → gridAt (setfAll g' xs) r c = ⟨v, true⟩ := by
          intro xs
          induction xs with
          | nil => intro g' h _; exact h
          | cons x xs ihx =>
            intro g' h hx
            rw [setfAll_cons]
            refine ihx _ ?_ fun y hy => hx y (List.mem_cons_of_mem _ hy)
            by_cases ha : cellAddr r c = cellAddr x.1.1 x.1.2
            · have hv := hx x List.mem_cons_self ha
              have := gridAt_setf_same g' x.1.1 x.1.2 x.2
              rw [hv] at this ⊢
              simpa [gridAt, ha] using this
            · rw [gridAt_setf_other _ ha, h]
        exact key cells _ (gridAt_setf_same _ _ _ _) fun x hx => hone x (List.mem_cons_of_mem _ hx)
      · rw [gridAt_setfAll_other _ _ _ _ fun x hx ha => hagain ⟨x, hx, ha⟩]
        exact gridAt_setf_same _ _ _ _

/-- `setfAll` clears no function flag. -/
theorem fn_setfAll (g : Grid) (cells : List (Pos × ModuleState)) (r c : Nat) (h : (gridAt g r c).fn = true) :
    (gridAt (setfAll g cells) r c).fn = true := by
  induction cells generalizing g with
  | nil => exact h
  | cons e cells ih =>
    rw [setfAll_cons]
    refine ih _ ?_
    by_cases ha : cellAddr r c = cellAddr e.1.1 e.1.2
    · have := gridAt_setf_same g e.1.1 e.1.2 e.2
      simp only [gridAt] at this ⊢
      rw [ha, this]
    · rw [gridAt_setf_other _ ha, h]

theorem setfAll_wf {g : Grid} (hg : Memory.wf unwrittenCell g = true) (cells : List (Pos × ModuleState)) :
    Memory.wf unwrittenCell (setfAll g cells) = true := by
  induction cells generalizing g with
  | nil => exact hg
  | cons e cells ih => exact ih (setCell_wf hg _ _ _)

@[simp] theorem setStAll_nil (g : Grid) : setStAll g [] = g := rfl

@[simp] theorem setStAll_cons (g : Grid) (e : Pos × ModuleState) (cells : List (Pos × ModuleState)) :
    setStAll g (e :: cells) = setStAll (setSt g e.1.1 e.1.2 e.2) cells := rfl

/-- `setStAll` leaves every cell alone that is not in the list. -/
theorem gridAt_setStAll_other (g : Grid) (cells : List (Pos × ModuleState)) (r c : Nat)
    (h : ∀ e ∈ cells, cellAddr r c ≠ cellAddr e.1.1 e.1.2) : gridAt (setStAll g cells) r c = gridAt g r c := by
  induction cells generalizing g with
  | nil => rfl
  | cons e cells ih =>
    rw [setStAll_cons, ih _ fun x hx => h x (List.mem_cons_of_mem _ hx)]
    exact gridAt_setCell_other _ (h e List.mem_cons_self)

theorem setStAll_wf {g : Grid} (hg : Memory.wf unwrittenCell g = true) (cells : List (Pos × ModuleState)) :
    Memory.wf unwrittenCell (setStAll g cells) = true := by
  induction cells generalizing g with
  | nil => exact hg
  | cons e cells ih => exact ih (setCell_wf hg _ _ _)

/-- A write of `ST` writes no `FN`. -/
theorem fn_setSt {g : Grid} (hg : Memory.wf unwrittenCell g = true) (r c r' c' : Nat) (v : ModuleState) :
    (gridAt (setSt g r c v) r' c').fn = (gridAt g r' c').fn := by
  by_cases ha : cellAddr r' c' = cellAddr r c
  · have := gridAt_setCell_same hg r c ⟨v, (gridAt g r c).fn⟩
    simp only [setSt, gridAt] at this ⊢
    rw [ha, this]
  · rw [setSt, gridAt_setCell_other _ ha]

/-- `setStAll` writes no `FN`. -/
theorem fn_setStAll {g : Grid} (hg : Memory.wf unwrittenCell g = true) (cells : List (Pos × ModuleState))
    (r c : Nat) : (gridAt (setStAll g cells) r c).fn = (gridAt g r c).fn := by
  induction cells generalizing g with
  | nil => rfl
  | cons e cells ih => 
    have h : Memory.wf unwrittenCell (setSt g e.1.1 e.1.2 e.2) = true := setCell_wf hg _ _ _
    rw [setStAll_cons, ih h, fn_setSt hg]

theorem mem_allCells (n r c : Nat) : (r, c) ∈ allCells n ↔ r < n ∧ c < n := by
  simp [allCells]

/-! ## The codeword buffer -/

theorem codeword_setCodeword {s : State} (h : Memory.wf unwrittenCodeword s.cwbuf = true) (k j : Nat) (v : Byte) :
    (s.setCodeword k v).codeword j = if j = k then v else s.codeword j :=
  Memory.read_write _ _ _ _ _ h

/-! ## The constant tables -/

theorem expTable_length : expTable.length = 256 := by decide +kernel

theorem logTable_length : logTable.length = 256 := by decide +kernel

theorem alignTable_length : alignTable.length = 41 := rfl

end Sys2Proof.Machine
end

