-- ==== Sys2Proof/Laws/Matrix.lean ====
section
/-! SUPPORT. The matrix builder: what its counts and its compositions depend on, the memory form it keeps, and the
bounds of its register writes (42_matrix.md R140 to R158). -/

namespace Sys2Proof.Machine

theorem allCells_length (n : Nat) : (allCells n).length = n * n := by
  simp [allCells]

/-- There are no more data cells than cells. -/
theorem countData_le (n : Nat) (g : Grid) : countData n g ≤ n * n :=
  allCells_length n ▸ List.countP_le_length

/-- No grid side of at most `SIZE_MAX` makes `DCAP` wrap: 177 * 177 is below `2^15`. -/
theorem countData_ofNat {n : Nat} (h : n ≤ 177) (g : Grid) :
    (BitVec.ofNat 15 (countData n g)).toNat = countData n g := by
  have h1 := countData_le n g
  have h2 : n * n ≤ 177 * 177 := Nat.mul_le_mul h h
  rw [BitVec.toNat_ofNat, Nat.mod_eq_of_lt (by omega)]

/-- Grids with the same flags have the same number of data cells. -/
theorem countData_congr {n : Nat} {g h : Grid}
    (hfn : ∀ r c, r < n → c < n → (gridAt g r c).fn = (gridAt h r c).fn) : countData n g = countData n h := by
  unfold countData
  refine List.countP_congr fun p hp => ?_
  obtain ⟨hr, hc⟩ := (mem_allCells n p.1 p.2).1 hp
  simp [hfn p.1 p.2 hr hc]

/-- A write of `ST` changes no count of data cells. -/
theorem countData_setStAll {g : Grid} (hg : Memory.wf unwrittenCell g = true) (n : Nat)
    (cells : List (Pos × ModuleState)) : countData n (setStAll g cells) = countData n g :=
  countData_congr fun r c _ _ => fn_setStAll hg cells r c

theorem allocGrid_wf {s : State} (h : Memory.wf unwrittenCell s.grid = true) :
    Memory.wf unwrittenCell (allocGrid s).grid = true := by
  rw [allocGrid_grid]
  generalize allCells s.size.toNat = cells
  generalize s.grid = g at h
  induction cells generalizing g with
  | nil => exact h
  | cons p cells ih => exact ih _ (setCell_wf h _ _ _)

/-- `MXINIT` on a memory in canonical form: every cell of the grid unwritten, every other cell as before. -/
theorem allocGrid_cell {s : State} (h : Memory.wf unwrittenCell s.grid = true) (r c : Nat) :
    (allocGrid s).cell r c =
      if ∃ p ∈ allCells s.size.toNat, cellAddr p.1 p.2 = cellAddr r c then ⟨.unset, false⟩ else s.cell r c := by
  rw [State.cell_eq, State.cell_eq, allocGrid_grid]
  generalize allCells s.size.toNat = cells
  generalize s.grid = g at h
  induction cells generalizing g with
  | nil => simp
  | cons p cells ih =>
    rw [List.foldl_cons, ih _ (setCell_wf h _ _ _)]
    by_cases hc : ∃ q ∈ cells, cellAddr q.1 q.2 = cellAddr r c
    · obtain ⟨q, hq, ha⟩ := hc
      rw [if_pos ⟨q, hq, ha⟩, if_pos ⟨q, List.mem_cons_of_mem _ hq, ha⟩]
    · rw [if_neg hc]
      by_cases ha : cellAddr p.1 p.2 = cellAddr r c
      · rw [if_pos ⟨p, List.mem_cons_self, ha⟩]
        have := gridAt_setCell_same h p.1 p.2 ⟨.unset, false⟩
        simp only [gridAt] at this ⊢
        rwa [ha] at this
      · rw [if_neg, gridAt_setCell_other _ (Ne.symm ha)]
        rintro ⟨q, hq, hqa⟩
        rcases List.mem_cons.1 hq with rfl | hq
        · exact ha hqa
        · exact hc ⟨q, hq, hqa⟩

/-- The patterns of a version depend on the version, the size and the grid alone. -/
theorem buildPatterns_dcap_congr {s t : State} (hv : s.version = t.version) (hn : s.size = t.size)
    (hg : s.grid = t.grid) : (buildPatterns s).dcap = (buildPatterns t).dcap := by
  simp only [buildPatterns, reserveAreas_dcap, reserveAreas_grid, placeAlignment_grid, placeAlignment_size,
    placeAlignment_version, placeTiming_grid, placeTiming_size, placeTiming_version, placeFinders_grid,
    placeFinders_size, placeFinders_version, allocGrid_grid, allocGrid_size, allocGrid_version, hv, hn, hg]

/-- `DCAP` after the patterns is at most the number of cells. -/
theorem buildPatterns_dcap_le {s : State} (h : s.size.toNat ≤ 177) :
    (buildPatterns s).dcap.toNat ≤ s.size.toNat * s.size.toNat := by
  have hn : (placeAlignment (placeTiming (placeFinders (allocGrid s)))).size = s.size := by simp
  rw [buildPatterns, reserveAreas_dcap, hn, countData_ofNat h]
  exact countData_le _ _

end Sys2Proof.Machine
end

