-- ==== Sys2Proof/Laws/Exec.lean ====
section
/-! SUPPORT. Everything a command can do, said once for all 28: it is refused, it faults, or it succeeds
(60_exceptions.md R223 to R228). A proof about every command cites `exec_outcome` and unfolds no meaning. -/

namespace Sys2Proof.Machine

/-- Phases with the same number are the same phase. -/
theorem Phase.code_inj {p q : Phase} (h : p.code = q.code) : p = q := by
  cases p <;> cases q <;> first | rfl | (exact absurd h (by decide))

/-- What a command `i` issued in `s` can end in. -/
inductive Outcome (i : Instr) (s : State) : Result → Prop where
  /-- refused in phase `ERROR` -/
  | refused (h : s.phase = .error) (hn : i ≠ .nop) (hs : i ≠ .sreset)
      (hr : ∀ a, i = .rdreg a → s.controlRegister a = none) : Outcome i s (.next s.refusedNow)
  /-- the phase is not listed -/
  | sequence (h : s.phase ≠ .error) (hp : s.phase.code ∉ acceptedCodes i) :
      Outcome i s (.next (s.faulted .sequenceError (encode i)))
  /-- an error of the command's own -/
  | own (h : s.phase ≠ .error) (hp : s.phase.code ∈ acceptedCodes i) (e : ErrorName) (he : e ∈ ownErrors i) :
      Outcome i s (.next (s.faulted e (encode i)))
  /-- a success: the state `t` with the command's effect, and the response `v` -/
  | success (hp : s.phase.code ∈ acceptedCodes i) (t : State) (v : Value)
      (hr : t.responses = s.responses) (hq : t.pending = s.pending)
      (hc : t.phase.code = (nextCode i).getD s.phase.code)
      (he : i = .sreset ∨ (t.err = s.err ∧ t.ephase = s.ephase ∧ t.einfo = s.einfo))
      (hz : s.phase = .error → i ≠ .sreset → t = s) :
      Outcome i s (.next (t.answered v.toNat))

theorem outcome_gated {i : Instr} {s : State} {body : Result} (hn : i ≠ .nop) (hs : i ≠ .sreset)
    (hr : ∀ a, i ≠ .rdreg a) (h : s.phase ≠ .error → s.phase.code ∈ acceptedCodes i → Outcome i s body) :
    Outcome i s (gated i s body) := by
  by_cases he : s.phase = .error
  · rw [gated_of_error he]
    exact .refused he hn hs fun a ha => absurd ha (hr a)
  · cases ha : accepted i s.phase
    · rw [gated_of_not_accepted he ha]
      refine .sequence he fun hc => ?_
      rw [(accepted_iff i s.phase).2 hc] at ha
      exact absurd ha (by decide)
    · rw [gated_of_accepted he ha]
      exact h he ((accepted_iff i s.phase).1 ha)

theorem outcome_raise {i : Instr} {s : State} {e : ErrorName} (h : s.phase ≠ .error)
    (hp : s.phase.code ∈ acceptedCodes i) (he : e ∈ ownErrors i) : Outcome i s (raise e (encode i) s) := by
  rw [raise_eq]
  exact .own h hp e he

theorem outcome_respond {i : Instr} {s t : State} {v : Value} (hp : s.phase.code ∈ acceptedCodes i)
    (hr : t.responses = s.responses) (hq : t.pending = s.pending)
    (hc : t.phase.code = (nextCode i).getD s.phase.code)
    (he : i = .sreset ∨ (t.err = s.err ∧ t.ephase = s.ephase ∧ t.einfo = s.einfo))
    (hz : s.phase = .error → i ≠ .sreset → t = s) : Outcome i s (respond v t) := by
  rw [respond_eq]
  exact .success hp t v hr hq hc he hz

/-- Every command in every state is refused, faults or succeeds. -/
theorem exec_outcome (i : Instr) (s : State) : Outcome i s (exec i s) := by
  have every (p : Phase) : p.code ∈ acceptedCodes .nop := by cases p <;> decide
  have same : s.err = s.err ∧ s.ephase = s.ephase ∧ s.einfo = s.einfo := ⟨rfl, rfl, rfl⟩
  cases i with
  | nop => exact outcome_respond (every _) rfl rfl rfl (.inr same) fun _ _ => rfl
  | sreset => exact outcome_respond (every _) rfl rfl rfl (.inl rfl) fun _ h => absurd rfl h
  | rdreg a =>
    simp only [exec, execRdreg]
    split
    · next h =>
      rw [raiseOrRefuse_eq]
      split
      · next he => exact .refused he (by simp) (by simp) fun b hb => by cases hb; exact h
      · next he => exact Outcome.own (i := .rdreg a) he (every _) .rangeError (by simp [ownErrors])
    · exact outcome_respond (every _) rfl rfl rfl (.inr same) fun _ _ => rfl
  | setver a =>
    refine outcome_gated (by simp) (by simp) (by simp) fun he hp => ?_
    split
    · exact outcome_raise he hp (by simp [ownErrors])
    · exact outcome_respond hp rfl rfl rfl (.inr same) fun h => absurd h he
  | setecl a =>
    refine outcome_gated (by simp) (by simp) (by simp) fun he hp => ?_
    split
    · exact outcome_raise he hp (by simp [ownErrors])
    · exact outcome_respond hp rfl rfl rfl (.inr same) fun h => absurd h he
  | gfadd a b =>
    exact outcome_gated (by simp) (by simp) (by simp) fun he hp =>
      outcome_respond hp rfl rfl rfl (.inr same) fun h => absurd h he
  | gfmul a b =>
    exact outcome_gated (by simp) (by simp) (by simp) fun he hp =>
      outcome_respond hp rfl rfl rfl (.inr same) fun h => absurd h he
  | gfdiv a b =>
    refine outcome_gated (by simp) (by simp) (by simp) fun he hp => ?_
    split
    · exact outcome_raise he hp (by simp [ownErrors])
    · exact outcome_respond hp rfl rfl rfl (.inr same) fun h => absurd h he
  | gfexp a =>
    exact outcome_gated (by simp) (by simp) (by simp) fun he hp =>
      outcome_respond hp rfl rfl rfl (.inr same) fun h => absurd h he
  | gflog a =>
    refine outcome_gated (by simp) (by simp) (by simp) fun he hp => ?_
    split
    · exact outcome_raise he hp (by simp [ownErrors])
    · exact outcome_respond hp rfl rfl rfl (.inr same) fun h => absurd h he
  | rsinit a =>
    refine outcome_gated (by simp) (by simp) (by simp) fun he hp => ?_
    split
    · exact outcome_raise he hp (by simp [ownErrors])
    · exact outcome_respond hp rfl rfl rfl (.inr same) fun h => absurd h he
  | rsdata a =>
    refine outcome_gated (by simp) (by simp) (by simp) fun he hp => ?_
    split
    · exact outcome_raise he hp (by simp [ownErrors])
    · split
      · exact outcome_raise he hp (by simp [ownErrors])
      · exact outcome_respond hp rfl rfl rfl (.inr same) fun h => absurd h he
  | rsrd a =>
    refine outcome_gated (by simp) (by simp) (by simp) fun he hp => ?_
    split
    · exact outcome_raise he hp (by simp [ownErrors])
    · split
      · exact outcome_raise he hp (by simp [ownErrors])
      · exact outcome_respond hp rfl rfl rfl (.inr same) fun h => absurd h he
  | rsgen a =>
    refine outcome_gated (by simp) (by simp) (by simp) fun he hp => ?_
    split
    · exact outcome_raise he hp (by simp [ownErrors])
    · split
      · exact outcome_raise he hp (by simp [ownErrors])
      · exact outcome_respond hp rfl rfl rfl (.inr same) fun h => absurd h he
  | mxinit =>
    refine outcome_gated (by simp) (by simp) (by simp) fun he hp => ?_
    split
    · exact outcome_respond hp (by simp) (by simp) (by simp [nextCode, Phase.code]) (.inr (by simp))
        fun h => absurd h he
    · exact outcome_raise he hp (by simp [ownErrors])
  | mxfind =>
    exact outcome_gated (by simp) (by simp) (by simp) fun he hp =>
      outcome_respond hp (by simp) (by simp) (by simp [nextCode, Phase.code]) (.inr (by simp)) fun h => absurd h he
  | mxtime =>
    exact outcome_gated (by simp) (by simp) (by simp) fun he hp =>
      outcome_respond hp (by simp) (by simp) (by simp [nextCode, Phase.code]) (.inr (by simp)) fun h => absurd h he
  | mxalign =>
    exact outcome_gated (by simp) (by simp) (by simp) fun he hp =>
      outcome_respond hp (by simp) (by simp) (by simp [nextCode, Phase.code]) (.inr (by simp)) fun h => absurd h he
  | mxrsv =>
    exact outcome_gated (by simp) (by simp) (by simp) fun he hp =>
      outcome_respond hp (by simp) (by simp) (by simp [nextCode, Phase.code]) (.inr (by simp)) fun h => absurd h he
  | mxdata =>
    refine outcome_gated (by simp) (by simp) (by simp) fun he hp => ?_
    split
    · exact outcome_raise he hp (by simp [ownErrors])
    · exact outcome_respond hp (by simp) (by simp) (by simp [nextCode, Phase.code]) (.inr (by simp))
        fun h => absurd h he
  | mxbuild =>
    refine outcome_gated (by simp) (by simp) (by simp) fun he hp => ?_
    split
    · simp only
      split
      · exact outcome_raise he hp (by simp [ownErrors])
      · exact outcome_respond hp (by simp [buildPatterns]) (by simp [buildPatterns]) (by simp [nextCode, Phase.code])
          (.inr (by simp [buildPatterns])) fun h => absurd h he
    · exact outcome_raise he hp (by simp [ownErrors])
  | mskeval a =>
    refine outcome_gated (by simp) (by simp) (by simp) fun he hp => ?_
    split
    · exact outcome_raise he hp (by simp [ownErrors])
    · exact outcome_respond hp (by simp) (by simp) (by simp [nextCode]) (.inr (by simp)) fun h => absurd h he
  | msksel =>
    exact outcome_gated (by simp) (by simp) (by simp) fun he hp =>
      outcome_respond hp (by simp) (by simp) (by simp [nextCode, Phase.code]) (.inr (by simp)) fun h => absurd h he
  | mskforce a =>
    refine outcome_gated (by simp) (by simp) (by simp) fun he hp => ?_
    split
    · exact outcome_raise he hp (by simp [ownErrors])
    · exact outcome_respond hp (by simp) (by simp) (by simp [nextCode, Phase.code]) (.inr (by simp))
        fun h => absurd h he
  | final =>
    exact outcome_gated (by simp) (by simp) (by simp) fun he hp =>
      outcome_respond hp rfl rfl (by simp [nextCode, Phase.code]) (.inr same) fun h => absurd h he
  | cwpush a =>
    refine outcome_gated (by simp) (by simp) (by simp) fun he hp => ?_
    split
    · exact outcome_raise he hp (by simp [ownErrors])
    · exact outcome_respond hp (by simp) (by simp) (by simp [nextCode]) (.inr (by simp)) fun h => absurd h he
  | cwrd h =>
    refine outcome_gated (by simp) (by simp) (by simp) fun he hp => ?_
    split
    · exact outcome_raise he hp (by simp [ownErrors])
    · exact outcome_respond hp rfl rfl rfl (.inr same) fun h => absurd h he
  | gridrd a b =>
    refine outcome_gated (by simp) (by simp) (by simp) fun he hp => ?_
    split
    · exact outcome_raise he hp (by simp [ownErrors])
    · exact outcome_respond hp rfl rfl rfl (.inr same) fun h => absurd h he

end Sys2Proof.Machine
end

