-- ==== Sys2Proof/Laws/PerInstr.lean ====
section
/-! SUPPORT. The statements made once for every command, one lemma a constructor. `Opcode`: the top byte of a
command's word is its opcode, whatever its operands are (30_encoding.md R80, R84). -/

/-- Bits 31:24 of the word of `i` hold the opcode of `i`. -/
def Sys2Proof.Laws.Opcode.Statement (i : Sys2Proof.Instr) : Prop :=
  (Sys2Proof.encode i).extractLsb' 24 8 = i.opcode

namespace Sys2Proof.Laws.Opcode

theorem top_append {n : Nat} (op : Byte) (x : BitVec n) : (op ++ x).extractLsb' n 8 = op := by
  ext k hk
  simp [BitVec.getLsbD_append, BitVec.getLsbD_eq_getElem hk]

theorem top_encodeZ (op : Byte) : (encodeZ op).extractLsb' 24 8 = op := top_append op 0#24

theorem top_encodeB (op a : Byte) : (encodeB op a).extractLsb' 24 8 = op := by
  have h : encodeB op a = op ++ (0#16 ++ a) := BitVec.append_assoc
  exact h ▸ top_append op (0#16 ++ a)

theorem top_encodeBB (op a b : Byte) : (encodeBB op a b).extractLsb' 24 8 = op := by
  have h : encodeBB op a b = op ++ (0#8 ++ a ++ b) :=
    (congrArg (· ++ b) (BitVec.append_assoc (x₁ := op) (x₂ := 0#8) (x₃ := a))).trans
      (BitVec.append_assoc (x₁ := op) (x₂ := 0#8 ++ a) (x₃ := b))
  exact h ▸ top_append op (0#8 ++ a ++ b)

theorem top_encodeH (op : Byte) (x : BitVec 16) : (encodeH op x).extractLsb' 24 8 = op := by
  have h : encodeH op x = op ++ (0#8 ++ x) := BitVec.append_assoc
  exact h ▸ top_append op (0#8 ++ x)

theorem nop : Statement .nop := top_encodeZ _
theorem sreset : Statement .sreset := top_encodeZ _
theorem setver (a : Nat) : Statement (.setver a) := top_encodeB _ _
theorem setecl (a : Nat) : Statement (.setecl a) := top_encodeB _ _
theorem rdreg (a : Nat) : Statement (.rdreg a) := top_encodeB _ _
theorem gfadd (a b : Byte) : Statement (.gfadd a b) := top_encodeBB _ _ _
theorem gfmul (a b : Byte) : Statement (.gfmul a b) := top_encodeBB _ _ _
theorem gfdiv (a b : Byte) : Statement (.gfdiv a b) := top_encodeBB _ _ _
theorem gfexp (a : Nat) : Statement (.gfexp a) := top_encodeB _ _
theorem gflog (a : Byte) : Statement (.gflog a) := top_encodeB _ _
theorem rsinit (a : Nat) : Statement (.rsinit a) := top_encodeB _ _
theorem rsdata (a : Byte) : Statement (.rsdata a) := top_encodeB _ _
theorem rsrd (a : Nat) : Statement (.rsrd a) := top_encodeB _ _
theorem rsgen (a : Nat) : Statement (.rsgen a) := top_encodeB _ _
theorem mxinit : Statement .mxinit := top_encodeZ _
theorem mxfind : Statement .mxfind := top_encodeZ _
theorem mxtime : Statement .mxtime := top_encodeZ _
theorem mxalign : Statement .mxalign := top_encodeZ _
theorem mxrsv : Statement .mxrsv := top_encodeZ _
theorem mxdata : Statement .mxdata := top_encodeZ _
theorem mxbuild : Statement .mxbuild := top_encodeZ _
theorem mskeval (a : Nat) : Statement (.mskeval a) := top_encodeB _ _
theorem msksel : Statement .msksel := top_encodeZ _
theorem mskforce (a : Nat) : Statement (.mskforce a) := top_encodeB _ _
theorem final : Statement .final := top_encodeZ _
theorem cwpush (a : Byte) : Statement (.cwpush a) := top_encodeB _ _
theorem cwrd (h : Nat) : Statement (.cwrd h) := top_encodeH _ _
theorem gridrd (a b : Nat) : Statement (.gridrd a b) := top_encodeBB _ _ _

end Sys2Proof.Laws.Opcode
end

