-- ==== Sys2Proof/Tests/Slice0.lean ====
section
/-! SUPPORT. Tests: one decoding a constructor from words the spec writes out, the ill-formed commands, at most two
one-step tests an instruction with results from the spec's own vectors, and a witness for the hypotheses of every
statement that has some. The expected values come from spec/ (the vector is named), or from hand calculation where
the comment says so. -/

namespace Sys2Proof.Tests

open Sys2Proof Sys2Proof.Machine

-- One test after the other: elaborated side by side, their kernel evaluations would each hold a thread.
set_option Elab.async false

/-! ## Small states and what is read of a step -/

/-- From reset with version 1, level L set, in a phase. -/
def inPhase (p : Phase) : State := { State.reset with phase := p, version := 1, size := 21, eclv := true }

/-- The state reached, if a state is reached. -/
def after (o : Result) : Option State :=
  match o with
  | .next t => some t
  | .fault _ => none
  | .refused _ => none

/-- The newest response of the state reached. -/
def said (o : Result) : Option Word := (after o).bind fun t => t.responses.head?

/-- One step on a command word. -/
def send (w : Word) (s : State) : Result := step { s with pending := [.command w] }

/-- After V29 (a): register 0x0B was read from reset. -/
def faultedState : State := { State.reset with phase := .error, err := some .rangeError, einfo := 0x0400000B }

/-! ## Decoding: the words are the spec's (30_encoding.md R90; V11 to V29) -/

/-- R90 -/
theorem test_decode_nop : decode 0x00000000 = some .nop ∧ encode .nop = 0x00000000 := by decide

/-- V20 -/
theorem test_decode_sreset : decode 0x01000000 = some .sreset ∧ encode .sreset = 0x01000000 := by decide

/-- V20 -/
theorem test_decode_setver : decode 0x02000028 = some (.setver 40) ∧ encode (.setver 40) = 0x02000028 := by decide

/-- V20 -/
theorem test_decode_setecl : decode 0x03000002 = some (.setecl 2) ∧ encode (.setecl 2) = 0x03000002 := by decide

/-- V29 -/
theorem test_decode_rdreg : decode 0x0400001E = some (.rdreg 30) ∧ encode (.rdreg 30) = 0x0400001E := by decide

/-- V11 -/
theorem test_decode_gfadd : decode 0x100053CA = some (.gfadd 0x53 0xCA) ∧ encode (.gfadd 0x53 0xCA) = 0x100053CA := by decide

/-- V20 -/
theorem test_decode_gfmul : decode 0x1100FF02 = some (.gfmul 255 2) ∧ encode (.gfmul 255 2) = 0x1100FF02 := by decide

/-- V13 -/
theorem test_decode_gfdiv : decode 0x1200021D = some (.gfdiv 2 29) ∧ encode (.gfdiv 2 29) = 0x1200021D := by decide

/-- V14 -/
theorem test_decode_gfexp : decode 0x130000FF = some (.gfexp 255) ∧ encode (.gfexp 255) = 0x130000FF := by decide

/-- V15 -/
theorem test_decode_gflog : decode 0x14000000 = some (.gflog 0) ∧ encode (.gflog 0) = 0x14000000 := by decide

/-- V20 -/
theorem test_decode_rsinit : decode 0x2000001E = some (.rsinit 30) ∧ encode (.rsinit 30) = 0x2000001E := by decide

/-- V20 -/
theorem test_decode_rsdata : decode 0x210000EC = some (.rsdata 236) ∧ encode (.rsdata 236) = 0x210000EC := by decide

/-- V29 -/
theorem test_decode_rsrd : decode 0x22000028 = some (.rsrd 40) ∧ encode (.rsrd 40) = 0x22000028 := by decide

/-- V17 -/
theorem test_decode_rsgen : decode 0x23000003 = some (.rsgen 3) ∧ encode (.rsgen 3) = 0x23000003 := by decide

/-- V21 -/
theorem test_decode_mxinit : decode 0x30000000 = some .mxinit ∧ encode .mxinit = 0x30000000 := by decide

/-- V21 -/
theorem test_decode_mxfind : decode 0x31000000 = some .mxfind ∧ encode .mxfind = 0x31000000 := by decide

/-- V21 -/
theorem test_decode_mxtime : decode 0x32000000 = some .mxtime ∧ encode .mxtime = 0x32000000 := by decide

/-- V21 -/
theorem test_decode_mxalign : decode 0x33000000 = some .mxalign ∧ encode .mxalign = 0x33000000 := by decide

/-- V21 -/
theorem test_decode_mxrsv : decode 0x34000000 = some .mxrsv ∧ encode .mxrsv = 0x34000000 := by decide

/-- V29 -/
theorem test_decode_mxdata : decode 0x35000000 = some .mxdata ∧ encode .mxdata = 0x35000000 := by decide

/-- R90 -/
theorem test_decode_mxbuild : decode 0x36000000 = some .mxbuild ∧ encode .mxbuild = 0x36000000 := by decide

/-- V20 -/
theorem test_decode_mskeval : decode 0x40000007 = some (.mskeval 7) ∧ encode (.mskeval 7) = 0x40000007 := by decide

/-- V29 -/
theorem test_decode_msksel : decode 0x41000000 = some .msksel ∧ encode .msksel = 0x41000000 := by decide

/-- R90 -/
theorem test_decode_mskforce : decode 0x42000005 = some (.mskforce 5) ∧ encode (.mskforce 5) = 0x42000005 := by decide

/-- V29 -/
theorem test_decode_final : decode 0x43000000 = some .final ∧ encode .final = 0x43000000 := by decide

/-- V29 -/
theorem test_decode_cwpush : decode 0x50000007 = some (.cwpush 7) ∧ encode (.cwpush 7) = 0x50000007 := by decide

/-- V20 -/
theorem test_decode_cwrd : decode 0x51000E79 = some (.cwrd 3705) ∧ encode (.cwrd 3705) = 0x51000E79 := by decide

/-- R90 -/
theorem test_decode_gridrd : decode 0x52001408 = some (.gridrd 20 8) ∧ encode (.gridrd 20 8) = 0x52001408 := by decide

/-- The words of V20 and V29 (f) that are no commands. -/
theorem test_decode_illegal :
    [0x00000001#32, 0x36000100, 0x02000129, 0x11010307, 0x51010000, 0x05000000, 0x15000000, 0x24000000, 0x37000000,
     0x44000000, 0x53000000, 0xFF000000, 0x80000000, 0x52FF0000].map decode = List.replicate 14 none := by decide

theorem test_decodeTableWord : decodeTableWord 32 0x52001408 = some (.gridrd 20 8) := by decide

/-! ## Ill-formed commands, which the check refuses -/

theorem test_illFormed_setver : (.setver 256 : Instr).wellFormed = false := by decide

theorem test_illFormed_setecl : (.setecl 256 : Instr).wellFormed = false := by decide

theorem test_illFormed_rdreg : (.rdreg 256 : Instr).wellFormed = false := by decide

theorem test_illFormed_gfexp : (.gfexp 256 : Instr).wellFormed = false := by decide

theorem test_illFormed_rsinit : (.rsinit 256 : Instr).wellFormed = false := by decide

theorem test_illFormed_rsrd : (.rsrd 256 : Instr).wellFormed = false := by decide

theorem test_illFormed_rsgen : (.rsgen 256 : Instr).wellFormed = false := by decide

theorem test_illFormed_mskeval : (.mskeval 256 : Instr).wellFormed = false := by decide

theorem test_illFormed_mskforce : (.mskforce 256 : Instr).wellFormed = false := by decide

theorem test_illFormed_cwrd : (.cwrd 65536 : Instr).wellFormed = false := by decide

theorem test_illFormed_gridrd_row : (.gridrd 256 0 : Instr).wellFormed = false := by decide

theorem test_illFormed_gridrd_column : (.gridrd 0 256 : Instr).wellFormed = false := by decide

theorem test_wellFormed_greatest : (Instr.cwrd 65535).wellFormed = true ∧ (Instr.gridrd 255 255).wellFormed = true := by
  decide

/-! ## System, configuration and access commands (V29) -/

/-- V29 (a): `NOP` in phase `ERROR`. -/
theorem test_nop : after (send 0x00000000 faultedState) = some { faultedState with responses := [0] } := by decide

/-- V29 (a): `SRESET` leaves `ERROR`, `STATUS` reads 0. -/
theorem test_sreset : (after (send 0x01000000 faultedState)).map (fun t => (t.responses, t.status, t.einfo)) =
    some ([0], 0, 0) := by decide

/-- V21. -/
theorem test_setver : (after (send 0x02000001 State.reset)).map (fun t => (t.responses, t.version, t.size)) =
    some ([0x15], 1, 21) := by decide

/-- V29 (b): version 41. -/
theorem test_setver_range : (after (send 0x02000029 State.reset)).map (fun t => (t.responses, t.status, t.einfo)) =
    some ([0x80000001], 0x1F, 0x02000029) := by decide

/-- V21: level H is held as 3. -/
theorem test_setecl : (after (send 0x03000003 State.reset)).map (fun t => (t.responses, t.ecl, t.eclv)) =
    some ([0], .h, true) := by decide

/-- V29 (b): level 4. -/
theorem test_setecl_range : said (send 0x03000004 State.reset) = some 0x80000001 := by decide

/-- V29 (a): `ID`, and `STATUS` in phase `ERROR`. -/
theorem test_rdreg : said (send 0x04000000 State.reset) = some 0x51524331 ∧
    said (send 0x04000001 faultedState) = some 0x7F ∧ said (send 0x0400000A faultedState) = some 0x0400000B := by decide

/-- V29 (a): register 0x0B from reset, and register 30 in phase `ERROR`, refused without a change. -/
theorem test_rdreg_undefined : after (send 0x0400000B State.reset) = some { faultedState with responses := [0x80000007] } ∧
    after (send 0x0400001E faultedState) = some { faultedState with responses := [0x80000007] } := by decide

/-- V29 (d). -/
theorem test_cwpush : (after (send 0x50000007 State.reset)).map (fun t => (t.responses, t.cwlen, t.cwbuf)) =
    some ([1], 1, [(0, 7)]) := by decide

/-- V29 (d): `CWLEN = 3706`. -/
theorem test_cwpush_full : (after (send 0x50000007 { State.reset with cwlen := 3706 })).map
    (fun t => (t.responses, t.cwlen, t.cwbuf)) = some ([0x80000007], 3706, []) := by decide

/-- V29 (d): the codeword, and the index `CWLEN`. -/
theorem test_cwrd : said (send 0x51000000 { State.reset with cwlen := 1, cwbuf := [(0, 7)] }) = some 7 ∧
    said (send 0x51000001 { State.reset with cwlen := 1, cwbuf := [(0, 7)] }) = some 0x80000007 := by decide

/-- V21: a dark finder cell after `MXFIND` reads 5, and V29 (d): row `SIZE`. -/
theorem test_gridrd : said (send 0x52000000 { inPhase .finders with grid := [(0, ⟨.dark, true⟩)] }) = some 5 ∧
    said (send 0x52001500 (inPhase .alloc)) = some 0x80000007 := by decide

/-- V29 (c): phase 0. -/
theorem test_gridrd_phase : said (send 0x52000000 State.reset) = some 0x80000006 := by decide

/-- V29 (f): `EINFO` is the word with bit 31 cleared. -/
theorem test_illegal : (after (send 0xFF000000 State.reset)).map (fun t => (t.responses, t.status, t.einfo)) =
    some ([0x80000005], 0x5F, 0x7F000000) := by decide

/-- V29 (a): in phase `ERROR` an illegal word is refused with the recorded code. -/
theorem test_illegal_refused : after (send 0x05000000 faultedState) =
    some { faultedState with responses := [0x80000007] } := by decide

/-! ## GF(256) engine (V11 to V15) -/

theorem test_gfadd : said (send 0x100053CA State.reset) = some 0x99 ∧ said (send 0x1000FFFF State.reset) = some 0 := by
  decide +kernel

theorem test_gfmul : said (send 0x1100FFFF State.reset) = some 0xE2 ∧ said (send 0x11001D8E State.reset) = some 0x80 := by
  decide +kernel

theorem test_gfmul_zero : said (send 0x1100004D State.reset) = some 0 ∧ said (send 0x11004D00 State.reset) = some 0 := by
  decide +kernel

theorem test_gfdiv : said (send 0x1200021D State.reset) = some 0x1B ∧ said (send 0x12000005 State.reset) = some 0 := by
  decide +kernel

/-- The divisor 0 with dividend 0. -/
theorem test_gfdiv_zero : (after (send 0x12000500 State.reset)).map (fun t => (t.responses, t.status, t.einfo)) =
    some ([0x80000008], 0x8F, 0x12000500) ∧ said (send 0x12000000 State.reset) = some 0x80000008 := by decide +kernel

theorem test_gfexp : said (send 0x13000008 State.reset) = some 0x1D ∧ said (send 0x130000FF State.reset) = some 1 := by
  decide +kernel

theorem test_gflog : said (send 0x140000FF State.reset) = some 175 ∧ said (send 0x14000001 State.reset) = some 0 := by
  decide +kernel

theorem test_gflog_zero : said (send 0x14000000 State.reset) = some 0x80000008 := by decide +kernel

/-! ## Reed-Solomon encoder (V10, V17, V19) -/

/-- The state after `RSINIT 2` and `RSDATA 1` (V17). -/
def rsState : State :=
  { State.reset with
    nsym := 2, dlen := 1
    gen := Vector.ofFn fun k : Fin 31 => [1, 3, 2].getD k.val 0
    rem := Vector.ofFn fun k : Fin 30 => [3, 2].getD k.val 0 }

/-- V17. -/
theorem test_rsinit : (after (send 0x20000002 rsState)).map
    (fun t => (t.responses, t.nsym, t.dlen, (List.range 4).map t.genAt, (List.range 3).map t.remAt)) =
    some ([0], 2, 0, [1, 3, 2, 0], [0, 0, 0]) := by decide +kernel

/-- V29 (b). -/
theorem test_rsinit_range : said (send 0x20000000 State.reset) = some 0x80000001 ∧
    said (send 0x2000001F State.reset) = some 0x80000001 := by decide +kernel

/-- V17: `RSDATA 2`. -/
theorem test_rsdata : (after (send 0x21000002 rsState)).map
    (fun t => (t.responses, t.dlen, (List.range 3).map t.remAt)) = some ([2], 2, [1, 2, 0]) := by decide +kernel

/-- V19: the 226th data codeword with `nsym = 30`. -/
theorem test_rsdata_ceiling : (after (send 0x21000001 { State.reset with nsym := 30, dlen := 225 })).map
    (fun t => (t.responses, t.status, t.einfo, t.dlen)) = some ([0x80000004], 0x4F, 0x21000001, 225) := by decide +kernel

theorem test_rsrd : said (send 0x22000000 rsState) = some 3 ∧ said (send 0x22000001 rsState) = some 2 := by decide +kernel

/-- V17 and V29 (c): the index `NSYM`, and `NSYM = 0` before the index. -/
theorem test_rsrd_range : said (send 0x22000002 rsState) = some 0x80000007 ∧
    said (send 0x22000028 State.reset) = some 0x80000006 := by decide +kernel

theorem test_rsgen : said (send 0x23000001 rsState) = some 3 ∧ said (send 0x23000002 rsState) = some 2 := by decide +kernel

theorem test_rsgen_range : said (send 0x23000003 rsState) = some 0x80000007 ∧
    said (send 0x23000000 State.reset) = some 0x80000006 := by decide +kernel

/-! ## Matrix builder (V21, V22, V25, V29) -/

/-- V21: every cell becomes `Unset` with `FN = 0`. -/
theorem test_mxinit : (after (send 0x30000000 { inPhase .idle with grid := [(0, ⟨.dark, true⟩), (5140, ⟨.dark, false⟩)] })).map
    (fun t => (t.responses, t.phase, t.grid)) = some ([0], .alloc, []) := by decide +kernel

/-- V29 (c): no `SETECL` yet. -/
theorem test_mxinit_config : said (send 0x30000000 { inPhase .idle with eclv := false }) = some 0x80000006 := by decide

/-- V21: the 3-bit `GRIDRD` values of the cells V21 reads after `MXFIND`. -/
theorem test_mxfind : (after (send 0x31000000 (inPhase .alloc))).map
    (fun t => (t.phase, [(0, 0), (1, 1), (2, 2), (3, 3), (7, 7), (7, 0), (0, 13), (0, 14), (13, 0), (14, 6), (8, 8), (6, 8)].map
      fun p => (t.cell p.1 p.2).bits)) = some (.finders, [5, 4, 5, 5, 4, 4, 4, 5, 4, 5, 2, 2]) := by decide +kernel

/-- V21: the timing cells, none of which lies in a finder. -/
theorem test_mxtime : (after (send 0x32000000 (inPhase .finders))).map
    (fun t => (t.phase, [(6, 8), (6, 9), (8, 6), (9, 6), (12, 6), (6, 6), (6, 7), (13, 6)].map
      fun p => (t.cell p.1 p.2).bits)) = some (.timing, [5, 4, 5, 4, 5, 2, 2, 2]) := by decide +kernel

/-- V22: the one alignment pattern of version 2, centre (18, 18). -/
theorem test_mxalign : (after (send 0x33000000 { inPhase .timing with version := 2, size := 25 })).map
    (fun t => (t.phase, t.grid.length, [(16, 16), (17, 17), (18, 18), (17, 18), (20, 20), (15, 15)].map
      fun p => (t.cell p.1 p.2).bits)) = some (.aligned, 25, [5, 4, 5, 4, 5, 2]) := by decide +kernel

/-- V21: 31 cells of version 1, the ones V21 reads among them; on an otherwise free grid 441 - 31 = 410 cells stay
data cells (hand calculation). -/
theorem test_mxrsv : (after (send 0x34000000 (inPhase .aligned))).map
    (fun t => (t.responses, t.phase, t.dcap, [(8, 8), (8, 0), (0, 8), (8, 20), (20, 8), (14, 8), (13, 8), (9, 8)].map
      fun p => (t.cell p.1 p.2).bits)) = some ([410], .reserved, 410, [7, 7, 7, 7, 7, 7, 5, 2]) := by decide +kernel

/-- V25: the codewords `0x01 0x80` go to `PATH[7]` and `PATH[8]`; the first 24 entries of `PATH` cross no function
cell. -/
theorem test_mxdata : (after (send 0x35000000 { inPhase .reserved with dcap := 24, cwlen := 2, cwbuf := [(0, 1), (1, 0x80)] })).map
    (fun t => (t.responses, t.phase, (t.grid.filter fun e => e.2.st == .dark).map (·.1), t.grid.length)) =
    some ([0], .placed, [cellAddr 16 20, cellAddr 17 19], 24) := by decide +kernel

/-- V29 (d): one codeword more than fits. -/
theorem test_mxdata_range : (after (send 0x35000000 { inPhase .reserved with dcap := 208, cwlen := 27 })).map
    (fun t => (t.responses, t.status)) = some ([0x80000007], 0x157F) := by decide +kernel

/-- The function cells of version 1 after `MXRSV`, row by row, column 0 as the leftmost bit: the cells that are not `?`
in the picture of R159. -/
def functionRows : List Nat :=
  [0b111111111000011111111, 0b111111111000011111111, 0b111111111000011111111, 0b111111111000011111111,
   0b111111111000011111111, 0b111111111000011111111, 0b111111111111111111111, 0b111111111000011111111,
   0b111111111000011111111, 0b000000100000000000000, 0b000000100000000000000, 0b000000100000000000000,
   0b000000100000000000000, 0b111111111000000000000, 0b111111111000000000000, 0b111111111000000000000,
   0b111111111000000000000, 0b111111111000000000000, 0b111111111000000000000, 0b111111111000000000000,
   0b111111111000000000000]

/-- A grid of side 21 with these function cells. -/
def functionGrid : Grid := functionRows.zipIdx.flatMap fun row => (List.range 21).filterMap fun c =>
  if row.1.testBit (20 - c) then some (cellAddr row.2 c, ⟨.light, true⟩) else none

/-- R154: the positions 0 to 25, 47, 48, 120, 135, 136, 180 and 207 of the version 1 path, and its length. -/
theorem test_path : (let p := path 21 functionGrid
      (((List.range 26 ++ [47, 48, 120, 135, 136, 180, 207]).map fun k => p.getD k (0, 0)), p.length)) =
    ([(20, 20), (20, 19), (19, 20), (19, 19), (18, 20), (18, 19), (17, 20), (17, 19), (16, 20), (16, 19), (15, 20),
      (15, 19), (14, 20), (14, 19), (13, 20), (13, 19), (12, 20), (12, 19), (11, 20), (11, 19), (10, 20), (10, 19),
      (9, 20), (9, 19), (9, 18), (9, 17)] ++
     [(20, 17), (20, 16), (8, 12), (0, 11), (0, 10), (10, 8), (12, 0)], 208) := by decide +kernel

/-- V29 (c): no `SETVER`. -/
theorem test_mxbuild_config : said (send 0x36000000 State.reset) = some 0x80000006 := by decide

/-! ## Mask scorer and selector (V26 to V28) -/

/-- A grid of side 2 whose cells are light data cells: small enough to score by hand. -/
def twoByTwo : State :=
  { inPhase .placed with
    size := 2
    grid := [(0, ⟨.light, false⟩), (1, ⟨.light, false⟩), (256, ⟨.light, false⟩), (257, ⟨.light, false⟩)] }

/-- Hand calculation from R170 to R178: mask 5 flips all cells but (1, 1), so 3 of 4 are dark,
`k = |60 - 40| div 4 = 5` and N4 is 50; no run, no 2 by 2 block, no finder-like line. -/
theorem test_mskeval : (after (send 0x40000005 twoByTwo)).map
    (fun t => (t.responses, t.phase, t.penv, t.pensel, [t.pen[5], t.pn1, t.pn2, t.pn3, t.pn4, valueOf t.darkcnt])) =
    some ([50], .placed, 0x20, 5, [50, 0, 0, 0, 50, 3]) := by decide +kernel

/-- V29 (b). -/
theorem test_mskeval_range : said (send 0x40000008 (inPhase .placed)) = some 0x80000001 := by decide

/-- Hand calculation: masks 0, 1 and 2 make two cells dark and score 0, so the tie goes to mask 0 (R179), which flips
(0, 0) and (1, 1); mask 5 scores 50. -/
theorem test_msksel : (after (send 0x41000000 twoByTwo)).map
    (fun t => (t.responses, t.phase, t.mask, [valueOf t.penv, t.pen[1], t.pen[5]], t.grid.map fun e => e.2.bits)) =
    some ([0], .masked, 0, [0xFF, 0, 50], [1, 0, 0, 1]) := by decide +kernel

/-- V26: mask 2 flips column 0; a function cell is not flipped. -/
theorem test_mskforce : (after (send 0x42000002 { twoByTwo with
      grid := [(0, ⟨.light, true⟩), (1, ⟨.light, false⟩), (256, ⟨.light, false⟩), (257, ⟨.light, false⟩)] })).map
    (fun t => (t.responses, t.phase, t.mask, t.penv, t.grid.map fun e => e.2.bits)) =
    some ([2], .masked, 2, 0, [4, 0, 1, 0]) := by decide +kernel

/-- V26, the rows `r = 0` to 5 of masks 4 and 5. -/
theorem test_maskFormula : ((List.range 6).map fun r => (List.range 6).map fun c => maskFormula 4 r c) =
      (List.replicate 2 [true, true, true, false, false, false] ++ List.replicate 2 [false, false, false, true, true, true] ++
        List.replicate 2 [true, true, true, false, false, false]) ∧
    ((List.range 6).map fun c => maskFormula 5 3 c) = [true, false, true, false, true, false] := by decide

/-- V27: `......` and the runs and windows of its lines. -/
theorem test_lineScores :
    (lineN1 (List.replicate 21 true), lineN3 (List.replicate 21 true)) = (19, 0) ∧
    (let l := List.replicate 10 false ++ [true, false, true, true, true, false, true] ++ List.replicate 4 false
     (lineN1 l, lineN3 l)) = (8, 80) := by decide +kernel

/-- V27: N4 just below and just above a step. -/
theorem test_ratio : (ratioN4 199 441, ratioN4 198 441, ratioN4 242 441, ratioN4 0 441) = (0, 10, 0, 100) := by decide

/-- V28: level M, mask 5; and F1(14), F2(0), F1(6) of `100000011001110` (bit 14 first), which keep `FN`. -/
theorem test_final : (after (send 0x43000000 { inPhase .masked with ecl := .m, mask := 5, grid := [(8 * 256, ⟨.reserved, true⟩)] })).map
    (fun t => (t.responses, t.phase, [(8, 0), (8, 20), (7, 8), (1, 8)].map fun p => (t.cell p.1 p.2).bits)) =
    some ([0x40CE], .final, [5, 0, 1, 1]) := by decide +kernel

/-- V28: version 7 has version information; bit 2 of `0x07C94` is 1, bit 0 is 0, bit 17 is 0. -/
theorem test_final_version : (after (send 0x43000000 { inPhase .masked with version := 7, size := 45 })).map
    (fun t => [(0, 36), (0, 34), (36, 0), (5, 36), (36, 5)].map fun p => (t.cell p.1 p.2).st) =
    some [.dark, .light, .dark, .light, .light] := by decide +kernel

/-! ## Hardware reset and the port -/

theorem test_reset_action : after (step { faultedState with pending := [.reset] }) = some State.reset := by decide

theorem test_withFetchWord : said (step (State.reset.withFetchWord 32 0x11000307)) = some 9 := by decide +kernel

/-! ## Witnesses: the hypotheses of the statements can be met, clause by clause, at the ends of their ranges -/

/-- A state in phase `RESERVED` that meets both invariants: version 1, column 6 made of function cells, every other
cell a data cell. -/
def columnState : State :=
  { inPhase .reserved with dcap := 420, grid := (List.range 21).map fun r => (256 * r + 6, ⟨.dark, true⟩) }

theorem columnState_inv : columnState.Inv where
  err_iff := by decide
  err_raised := by decide
  ephase_ne := by decide
  version_le := by decide
  size_eq := by decide
  configured := by decide
  nsym_le := by decide
  block_le := by decide
  gen_eq := fun h => absurd rfl h
  rem_zero := fun h => absurd rfl h
  cwlen_le := by decide
  cwbuf_wf := by decide
  cwbuf_below := by decide
  grid_wf := by decide +kernel
  grid_below := by decide +kernel
  mask_zero := fun _ => rfl
  penv_zero := fun _ => rfl
  pen_eq := fun h => absurd h (by decide)
  dcap_eq := by decide +kernel

theorem columnState_gridInv : columnState.GridInv := by
  have kind : ∀ r, r < 21 → ∀ c, c < 21 →
      ((columnState.cell r c).fn = true → (columnState.cell r c).st = .dark) ∧
      ((columnState.cell r c).fn = false → (columnState.cell r c).st = .unset) ∧
      (columnState.cell r c).st ≠ .reserved := by decide +kernel
  have col : ∀ r, r < 21 → (columnState.cell r 6).fn = true := by decide +kernel
  have h5 : columnState.phase.code = 5 := rfl
  refine ⟨?_, ?_, ?_, ?_, ?_, ?_, ?_, ?_⟩
  · intro _ _ r c hr hc
    obtain ⟨k1, k2, _⟩ := kind r hr c hc
    exact ⟨fun h => by rw [k1 h]; decide, fun h => by rw [k2 h]; decide⟩
  · intro _ _ r c hr hc h
    exact (kind r hr c hc).2.1 h
  · intro _ h
    exact absurd h (by decide)
  · intro _ _ r hr _
    exact col r hr
  · intro _ _ r hr
    exact col r hr
  · intro _ _ r c hr hc h
    exact absurd h (kind r hr c hc).2.2
  · intro h
    exact absurd h (by decide)
  · intro h
    exact absurd h (by decide)

/-- For the invariants of a step, and for `PathListsDataCellsOnce`, whose first clause asks for as many passes as the
side. -/
theorem witness_invariants : columnState.size.toNat ≤ 21 ∧ ∃ t, columnState.Inv ∧ columnState.GridInv ∧ columnState.phase = .reserved ∧
    step columnState = .next t :=
  ⟨by decide, _, columnState_inv, columnState_gridInv, rfl, rfl⟩

/-- Two states that agree on all a command can read and differ in what reset leaves unspecified. -/
theorem witness_UnspecifiedArraysUnobservable :
    let s := { columnState with pending := [.command 0x04000001] }
    let t := { s with gen := Vector.replicate 31 7, cwbuf := [(0, 9)], grid := s.grid ++ [(45312, ⟨.dark, true⟩)] }
    s ≠ t ∧ s.Agree t ∧ (∃ s', step s = .next s') ∧ ∃ t', step t = .next t' := by
  refine ⟨by decide +kernel, ⟨rfl, fun h => absurd rfl h, fun h => absurd rfl h, ?_, ?_⟩, ⟨_, rfl⟩, ⟨_, rfl⟩⟩
  · intro k hk; exact absurd hk (Nat.not_lt_zero k)
  · intro _ _ r c hr hc
    revert r c
    have : ∀ r, r < 21 → ∀ c, c < 21 →
      gridAt columnState.grid r c = gridAt (columnState.grid ++ [(45312, ⟨.dark, true⟩)]) r c := by decide +kernel
    intro r c hr hc
    exact this r hr c hc

theorem witness_DecodeOfEncode : (Instr.cwrd 65535).WellFormed ∧ (Instr.gridrd 255 255).WellFormed := by decide

theorem witness_EncodeOfDecode : decode 0x52FF0000 = none ∧ decode 0x5200FFFF = some (.gridrd 255 255) := by decide

theorem witness_DecodeMatchesOpcodeTable :
    decode 0x0200FFFF = none ∧ decode 0x020000FF = some (.setver 255) ∧
    (rowB "SETVER" 0x02 ∈ opcodeTable ∧ 0x020000FF#32 &&& (rowB "SETVER" 0x02).mask = (rowB "SETVER" 0x02).pattern) ∧
    (∀ row ∈ opcodeTable, 0x05000000#32 &&& row.mask ≠ row.pattern) ∧
    { State.reset with pending := [.command 0x05000000] }.phase ≠ .error := by decide

/-- The pending word of a command, of no command, in a phase that is not `ERROR`, and in phase `ERROR`. -/
theorem witness_step :
    (∃ rest, { State.reset with pending := [.command 0x00000001] }.pending = .command 0x00000001 :: rest) ∧
    decode 0x00000001 = none ∧ State.reset.phase ≠ .error ∧ faultedState.phase = .error ∧ decode 0x00000000 = some .nop ∧
    (∃ rest, { State.reset with pending := [.reset, .reset] }.pending = .reset :: rest) ∧ State.reset.pending = [] :=
  ⟨⟨_, rfl⟩, by decide, by decide, by decide, by decide, ⟨_, rfl⟩, rfl⟩

theorem witness_ResetValues : ∀ n ∈ [0x01, 0x0A, 0x10, 0x1D], (n ≤ 0x0A ∨ (0x10 ≤ n ∧ n ≤ 0x1D)) ∧ n ≠ 0 := by decide

/-- `E = 1` after a fault, `E = 0` in phase `ERROR` after a `NOP`. -/
theorem witness_OneResponsePerCommand :
    (said (exec (.setver 41) State.reset)).map BitVec.msb = some true ∧
    (after (exec .nop faultedState)).map (fun t => (t.phase, t.responses.map BitVec.msb)) = some (.error, [false]) := by decide

/-- A register that is defined and one that is not, a command that is none of the three, a word that is no command. -/
theorem witness_ErrorPhaseRefuses : faultedState.phase = .error ∧ faultedState.controlRegister 0x1D = some 0 ∧
    faultedState.controlRegister 0x0B = none ∧ (∀ a, Instr.final = .rdreg a → faultedState.controlRegister a = none) ∧
    Instr.final ≠ .nop ∧ Instr.final ≠ .sreset ∧ decode 0x05000000 = none :=
  ⟨by decide, by decide, by decide, (fun _ h => by cases h), by decide, by decide, by decide⟩

/-- Also for `FaultTable`: the command is accepted in the phase, and faults. -/
theorem witness_FaultChangesNothingElse : ∃ t, State.reset.phase ≠ .error ∧ State.reset.phase.code ∈ acceptedCodes (.setver 41) ∧
    exec (.setver 41) State.reset = .next t ∧ t.phase = .error ∧ t.err = some .invalidParameter :=
  ⟨_, by decide, by decide, rfl, rfl, rfl⟩

theorem witness_PhaseTable : (State.reset.phase ≠ .error ∧ State.reset.phase.code ∉ acceptedCodes .final) ∧
    (faultedState.phase = .error ∧ 15 ∉ acceptedCodes .final) ∧
    ∃ t w, exec .nop faultedState = .next t ∧ t.responses = w :: faultedState.responses ∧ w.msb = false :=
  ⟨by decide, by decide, _, _, rfl, rfl, by decide⟩

/-- Also for `HostErrorsNeverRaised`, with either code in `ERR`. -/
theorem witness_PhaseOnlyMovesForward : (∃ t, step State.reset = .next t) ∧
    (∃ t, step { faultedState with err := some .unencodableInput } = .next t ∧ t.err = some .unencodableInput) ∧
    ∃ t, step { faultedState with err := some .dataTooLarge } = .next t ∧ t.err = some .dataTooLarge :=
  ⟨⟨_, rfl⟩, ⟨_, rfl, rfl⟩, ⟨_, rfl, rfl⟩⟩

/-- The hypotheses of `RefusedInError` and `CommonOutcomes`: phase `ERROR`, and for each command that has phases of its
own a phase from 0 to 8 that is not among them. -/
theorem witness_CommonOutcomes : faultedState.phase = .error ∧
    (∀ i ∈ [Instr.mxfind, .mxtime, .mxalign, .mxrsv, .mxdata, .mskeval 0, .msksel, .mskforce 0, .final, .gridrd 0 0],
      State.reset.phase ≠ .error ∧ State.reset.phase.code ∉ acceptedCodes i) ∧
    (∀ i ∈ [Instr.mxinit, .mxbuild, .setver 1, .setecl 0, .cwpush 0],
      (inPhase .placed).phase ≠ .error ∧ (inPhase .placed).phase.code ∉ acceptedCodes i) := by decide

theorem witness_CheckOrder : (inPhase .timing).phase = .timing ∧ (State.reset.phase ≠ .error ∧ State.reset.nsym = 0) ∧
    (State.reset.phase = .idle ∧ State.reset.version = 0) := by decide

theorem witness_FinishedGridImmutable : ∃ t, (inPhase .final).phase = .final ∧ exec .mxinit (inPhase .final) = .next t ∧
    Instr.mxinit ≠ .sreset :=
  ⟨_, by decide, rfl, by decide⟩

theorem witness_ReadsHaveNoSideEffects : ∃ t w, isReadCommand (.rdreg 0) = true ∧ exec (.rdreg 0) faultedState = .next t ∧
    t.responses = w :: faultedState.responses ∧ w.msb = false :=
  ⟨_, _, rfl, rfl, rfl, by decide⟩

/-- The field's statements: outside phase `ERROR`, operands zero and not zero, the ends of the exponents. -/
theorem witness_field : State.reset.phase ≠ .error ∧ (0 : Byte) = 0 ∧ (255 : Byte) ≠ 0 ∧ 253 < 254 ∧ 254 ≤ 254 := by decide

theorem witness_RsInitEffect : State.reset.phase ≠ .error ∧ (1 ≤ 1 ∧ 1 ≤ 30) ∧ (1 ≤ 30 ∧ 30 ≤ 30) ∧ (0 < 1 ∨ 30 < 0) ∧
    (31 < 1 ∨ 30 < 31) := by decide

theorem witness_GeneratorRoots : 30 ≤ 30 ∧ 29 < 30 := by decide

/-- Before an `RSINIT`, at the last codeword that fits, and one past it. -/
theorem witness_RsDataEffect : State.reset.nsym = 0 ∧
    (∀ s ∈ [{ State.reset with nsym := 30, dlen := 224 }, { State.reset with nsym := 1, dlen := 253 }],
      s.phase ≠ .error ∧ s.nsym ≠ 0 ∧ s.dlen.toNat + 1 + s.nsym.toNat ≤ 255) ∧
    ∀ s ∈ [{ State.reset with nsym := 30, dlen := 225 }, { State.reset with nsym := 1, dlen := 254 }],
      s.phase ≠ .error ∧ s.nsym ≠ 0 ∧ 255 < s.dlen.toNat + 1 + s.nsym.toNat := by decide

/-- The index just inside and just outside: 1 and 2 for `REM`, 2 and 3 for `GEN`. -/
theorem witness_RsReadback : rsState.phase ≠ .error ∧ rsState.nsym ≠ 0 ∧ 1 < rsState.nsym.toNat ∧ rsState.nsym.toNat ≤ 2 ∧
    2 ≤ rsState.nsym.toNat ∧ rsState.nsym.toNat < 3 := by decide

theorem witness_StreamingEqualsBufferForm : 1 ≤ 30 ∧ 30 ≤ 30 ∧ (List.replicate 225 (1 : Byte)).length + 30 ≤ 255 ∧
    State.reset.phase ≠ .error := by decide +kernel

theorem witness_EncoderLinear : ([1, 2] : List Byte).length = ([9, 8] : List Byte).length := by decide

theorem witness_MxInitEffect : ((State.reset.phase = .idle ∧ State.reset.version = 0) ∧
    { inPhase .idle with eclv := false }.eclv = false) ∧
    ((inPhase .idle).phase = .idle ∧ (inPhase .idle).version ≠ 0 ∧ (inPhase .idle).eclv = true ∧
      Memory.wf unwrittenCell (inPhase .idle).grid = true) := by decide

/-- For the statements of `MXFIND`, `MXTIME`, `MXALIGN`, `MXRSV` and `FINAL`, at the smallest and the greatest side. -/
theorem witness_sides : ∀ p ∈ [Phase.alloc, .finders, .timing, .aligned, .masked],
    ∀ s ∈ [inPhase p, { inPhase p with version := 40, size := 177 }],
      s.phase = p ∧ 21 ≤ s.size.toNat ∧ s.size.toNat ≤ 177 := by decide

/-- The cells of the centre (18, 18), the first and the last of the pattern, and one outside every pattern. -/
theorem witness_MxAlignEffect : IsAlignmentCentre 2 18 18 ∧ (|((16 : Nat) : Int) - (18 : Nat)| ≤ 2 ∧
    |((20 : Nat) : Int) - (18 : Nat)| ≤ 2) ∧ ¬IsAlignmentCentre 2 6 18 ∧ ¬IsAlignmentCentre 2 18 6 ∧
    ∀ r0 c0, IsAlignmentCentre 1 r0 c0 → ¬(|((0 : Nat) : Int) - r0| ≤ 2 ∧ |((0 : Nat) : Int) - c0| ≤ 2) :=
  ⟨by unfold IsAlignmentCentre; decide, by decide, by unfold IsAlignmentCentre; decide,
    by unfold IsAlignmentCentre; decide, fun _ _ h => by simp [IsAlignmentCentre, alignCentres, alignTable] at h⟩

theorem witness_InformationCells : 21 ≤ 21 ∧ 17 < 18 := by decide

/-- The codewords that just fill the data cells and one more; the first and the last entry of `PATH`, and a cell that
is on no path. -/
theorem witness_MxDataEffect :
    (let s := { inPhase .reserved with dcap := 208, cwlen := 27 }
     s.phase = .reserved ∧ s.dcap.toNat < 8 * s.cwlen.toNat) ∧
    (let s := { inPhase .reserved with dcap := 208, cwlen := 26 }
     s.phase = .reserved ∧ 8 * s.cwlen.toNat ≤ s.dcap.toNat ∧ (path s.size.toNat s.grid)[0]? = some (20, 20) ∧
       (207 < s.dcap.toNat ∧ (path s.size.toNat s.grid)[207]? = some (1, 11)) ∧
       (0, 6) ∉ (path s.size.toNat s.grid).take s.dcap.toNat) := by decide +kernel

/-- No codeword always fits; 3706 do not fit version 1, whose grid has 441 cells. -/
theorem witness_MxBuildIsSixCommands :
    (let s := inPhase .idle
     s.phase = .idle ∧ s.version ≠ 0 ∧ s.eclv = true ∧ 8 * s.cwlen.toNat ≤ (buildPatterns s).dcap.toNat) ∧
    (let s := { inPhase .idle with cwlen := 3706 }
     s.phase = .idle ∧ s.version ≠ 0 ∧ s.eclv = true ∧ (buildPatterns s).dcap.toNat < 8 * s.cwlen.toNat) ∧
    (State.reset.phase = .idle ∧ State.reset.version = 0) :=
  ⟨⟨by decide, by decide, by decide, Nat.zero_le _⟩,
    ⟨by decide, by decide, by decide, lt_of_le_of_lt (buildPatterns_dcap_le (by decide)) (by decide)⟩, by decide⟩

theorem witness_DataCellCounts : ∀ s ∈ [inPhase .idle, { inPhase .idle with version := 40, size := 177 }],
    1 ≤ s.version.toNat ∧ s.version.toNat ≤ 40 ∧ s.size.toNat = 4 * s.version.toNat + 17 ∧
    Memory.wf unwrittenCell s.grid = true := by decide

/-- For the statements of `MSKEVAL`, `MSKSEL` and `MSKFORCE`: the greatest index and one more. -/
theorem witness_mask : (inPhase .placed).phase = .placed ∧ 7 ≤ 7 ∧ 7 < 8 := by decide

theorem witness_CandidateIsMaskedGrid : (177 ≤ 256 ∧ 176 < 177 ∧ 0 < 177) ∧
    (0 < (inPhase .placed).size.toNat ∧ 20 < (inPhase .placed).size.toNat) := by decide

/-- Also for `PenaltyRules`. -/
theorem witness_PenaltyBounds : Plane.Square 21 (List.replicate 21 (List.replicate 21 false)) ∧
    (21 ≤ 21 ∧ 21 ≤ 177) ∧ (21 ≤ 177 ∧ 177 ≤ 177) :=
  ⟨⟨by decide, by simp +contextual⟩, by decide, by decide⟩

theorem witness_FinalWritesInformation :
    (let s := inPhase .masked
     s.phase = .masked ∧ 21 ≤ s.size.toNat ∧ (0, 0) ∉ informationPositions s.version.toNat s.size.toNat) ∧
    (let s := { inPhase .masked with version := 7, size := 45 }
     s.phase = .masked ∧ 21 ≤ s.size.toNat ∧ 7 ≤ s.version.toNat ∧ 17 < 18 ∧ 14 < 15) := by decide +kernel

theorem witness_SetVersionEffect : State.reset.phase = .idle ∧ (1 ≤ 1 ∧ 1 ≤ 40) ∧ (1 ≤ 40 ∧ 40 ≤ 40) ∧
    (0 < 1 ∨ 40 < 0) ∧ (41 < 1 ∨ 40 < 41) := by decide

theorem witness_SetLevelEffect : State.reset.phase = .idle ∧ 3 < 4 := by decide

theorem witness_ReadRegister : ∀ n ∈ [0x0B, 0x0F, 0x1E, 0xFF], ¬(n ≤ 0x0A ∨ (0x10 ≤ n ∧ n ≤ 0x1D)) := by decide

/-- The last free entry, the full buffer, and the last phase that accepts the command. -/
theorem witness_CodewordPush :
    (let s := { inPhase .reserved with cwlen := 3705 }
     s.phase.code ≤ 5 ∧ s.cwlen.toNat < 3706 ∧ Memory.wf unwrittenCodeword s.cwbuf = true) ∧
    { inPhase .reserved with cwlen := 3706 }.cwlen.toNat = 3706 := by decide

theorem witness_CodewordRead : (let s := { State.reset with cwlen := 3706 }
    s.phase ≠ .error ∧ 3705 < s.cwlen.toNat ∧ s.cwlen.toNat ≤ 3706) := by decide

theorem witness_GridRead : (State.reset.phase ≠ .error ∧ State.reset.phase = .idle) ∧
    (let s := inPhase .final
     s.phase ≠ .error ∧ s.phase ≠ .idle ∧ 20 < s.size.toNat ∧ s.size.toNat ≤ 21) := by decide

end Sys2Proof.Tests
end

section
/-! The effect of every command that succeeds, said once for all 28, and the form of a step that proofs about every
state cite: an invariant is kept when reset, faults, responses and the effects keep it. -/

namespace Sys2Proof.Machine

/-! ## The state changes of the commands that name none in the model -/

/-- The state after `RSINIT a` (41_rs.md R124). -/
def startBlock (a : Nat) (s : State) : State :=
  { s with
    nsym := BitVec.ofNat 5 a
    dlen := 0
    gen := Vector.ofFn fun k : Fin 31 => if k.val ≤ a then (genPoly a).getD k.val 0 else 0
    rem := Vector.replicate 30 0 }

/-- The state after `RSDATA a` (41_rs.md R125). -/
def feedBlock (a : Byte) (s : State) : State :=
  { s with rem := remAfter s a, dlen := BitVec.ofNat 8 (s.dlen.toNat + 1) }

/-- The state after `CWPUSH a` (44_system.md R205). -/
def pushCodeword (a : Byte) (s : State) : State :=
  { s.setCodeword s.cwlen.toNat a with cwlen := BitVec.ofNat 12 (s.cwlen.toNat + 1) }

/-- The state after `MSKEVAL a` (43_mask.md R182). -/
def markPenalty (a : Nat) (s : State) : State :=
  { writeBreakdown a (maskScore s a) s with
    pen := s.pen.setIfInBounds a (valueOfNat (maskScore s a).total)
    penv := penvSet s.penv a }

/-- The mask `MSKSEL` selects (43_mask.md R179). -/
def selectedMask (s : State) : Nat := leastMin (((List.range 8).map (maskScore s)).map Score.total)

/-- The state of `MSKSEL` between its scores and the mask it applies (43_mask.md R183). -/
def markAllPenalties (s : State) : State :=
  { writeBreakdown (selectedMask s) (maskScore s (selectedMask s)) s with
    pen := Vector.ofFn fun m : Fin 8 => valueOfNat (maskScore s m.val).total
    penv := penvAll }

/-- The state after `FINAL` (43_mask.md R185). -/
def writeInformation (s : State) : State :=
  { s with grid := setStAll s.grid (informationCells s), phase := .final }

/-! ## What a success does -/

/-- The commands whose success changes nothing but the responses. -/
def onlyResponds : Instr → Bool
  | .nop | .rdreg _ | .gfadd _ _ | .gfmul _ _ | .gfdiv _ _ | .gfexp _ | .gflog _ | .rsrd _ | .rsgen _ | .cwrd _
  | .gridrd _ _ => true
  | _ => false

/-- `Effect s i t`: the command `i` succeeds in `s` and changes it to `t`, the response apart. -/
inductive Effect (s : State) : Instr → State → Prop where
  | unchanged {i : Instr} (hi : onlyResponds i = true) : Effect s i s
  | reset : Effect s .sreset s.resetRegisters
  | setVersion {a : Nat} (hp : s.phase = .idle) (ha : 1 ≤ a) (ha' : a ≤ 40) :
      Effect s (.setver a) { s with version := BitVec.ofNat 6 a, size := BitVec.ofNat 8 (4 * a + 17) }
  | setLevel {a : Nat} (hp : s.phase = .idle) (e : Level) : Effect s (.setecl a) { s with ecl := e, eclv := true }
  | startBlock {a : Nat} (ha : 1 ≤ a) (ha' : a ≤ 30) : Effect s (.rsinit a) (startBlock a s)
  | feedBlock {a : Byte} (hn : s.nsym ≠ 0) (hd : s.dlen.toNat + 1 + s.nsym.toNat ≤ 255) :
      Effect s (.rsdata a) (feedBlock a s)
  | alloc (hp : s.phase = .idle) (hc : s.configured = true) : Effect s .mxinit (allocGrid s)
  | finders (hp : s.phase = .alloc) : Effect s .mxfind (placeFinders s)
  | timing (hp : s.phase = .finders) : Effect s .mxtime (placeTiming s)
  | alignment (hp : s.phase = .timing) : Effect s .mxalign (placeAlignment s)
  | reserve (hp : s.phase = .aligned) : Effect s .mxrsv (reserveAreas s)
  | data (hp : s.phase = .reserved) : Effect s .mxdata (placeData s)
  | build (hp : s.phase = .idle) (hc : s.configured = true) : Effect s .mxbuild (placeData (buildPatterns s))
  | evaluate {a : Nat} (hp : s.phase = .placed) (ha : a ≤ 7) : Effect s (.mskeval a) (markPenalty a s)
  | select (hp : s.phase = .placed) : Effect s .msksel (chooseMask (selectedMask s) (markAllPenalties s))
  | force {a : Nat} (hp : s.phase = .placed) (ha : a ≤ 7) : Effect s (.mskforce a) (chooseMask a s)
  | final (hp : s.phase = .masked) : Effect s .final (writeInformation s)
  | push {a : Byte} (hl : s.cwlen.toNat ≠ 3706) (hp : s.phase.code ≤ 5) : Effect s (.cwpush a) (pushCodeword a s)

/-- `Ends s i r`: the result `r` of the command `i` in `s` is a refusal, a fault or a success. -/
inductive Ends (s : State) (i : Instr) : Result → Prop where
  | refused : Ends s i (.next s.refusedNow)
  | faulted (h : s.phase ≠ .error) (e : ErrorName) (he : e ≠ .unencodableInput ∧ e ≠ .dataTooLarge) :
      Ends s i (.next (s.faulted e (encode i)))
  | answered {t : State} (h : Effect s i t) (v : Nat) : Ends s i (.next (t.answered v))

theorem ends_respond {s t : State} {i : Instr} (v : Value) (h : Effect s i t) : Ends s i (respond v t) := by
  rw [respond_eq]
  exact .answered h _

theorem ends_raise {s : State} {i : Instr} (h : s.phase ≠ .error) (e : ErrorName)
    (he : e ≠ .unencodableInput ∧ e ≠ .dataTooLarge := by decide) : Ends s i (raise e (encode i) s) := by
  rw [raise_eq]
  exact .faulted h e he

theorem ends_gated {s : State} {i : Instr} {body : Result}
    (h : s.phase ≠ .error → accepted i s.phase = true → Ends s i body) : Ends s i (gated i s body) := by
  by_cases he : s.phase = .error
  · rw [gated_of_error he]
    exact .refused
  · cases ha : accepted i s.phase
    · rw [gated_of_not_accepted he ha]
      exact .faulted he _ (by decide)
    · rw [gated_of_accepted he ha]
      exact h he ha

/-- A gated command with one check of its own, which raises `e`. -/
theorem ends_gated_check {s : State} {i : Instr} {c : Prop} [Decidable c] {e : ErrorName} {body : Result}
    (he : e ≠ .unencodableInput ∧ e ≠ .dataTooLarge)
    (h : s.phase ≠ .error → accepted i s.phase = true → ¬c → Ends s i body) :
    Ends s i (gated i s (if c then raise e (encode i) s else body)) := by
  refine ends_gated fun hp ha => ?_
  split
  · exact ends_raise hp e he
  · exact h hp ha ‹_›

/-- Every command in every state is refused, faults, or has its effect. -/
theorem exec_ends (i : Instr) (s : State) : Ends s i (exec i s) := by
  cases i with
  | nop => exact ends_respond _ (.unchanged rfl)
  | sreset => exact ends_respond _ .reset
  | rdreg a =>
    simp only [exec, execRdreg]
    split
    · rw [raiseOrRefuse_eq]
      split
      · exact .refused
      · exact .faulted ‹_› _ (by decide)
    · exact ends_respond _ (.unchanged rfl)
  | setver a =>
    refine ends_gated_check (by decide) fun _ hp hc => ends_respond _ ?_
    simp only [Config.verMin, Config.verMax] at hc
    exact .setVersion (eq_of_beq hp) (by omega) (by omega)
  | setecl a =>
    refine ends_gated fun he hp => ?_
    split
    · exact ends_raise he _
    · exact ends_respond _ (.setLevel (eq_of_beq hp) _)
  | gfadd a b => exact ends_gated fun _ _ => ends_respond _ (.unchanged rfl)
  | gfmul a b => exact ends_gated fun _ _ => ends_respond _ (.unchanged rfl)
  | gfdiv a b => exact ends_gated_check (by decide) fun _ _ _ => ends_respond _ (.unchanged rfl)
  | gfexp a => exact ends_gated fun _ _ => ends_respond _ (.unchanged rfl)
  | gflog a => exact ends_gated_check (by decide) fun _ _ _ => ends_respond _ (.unchanged rfl)
  | rsinit a =>
    refine ends_gated_check (by decide) fun _ hp hc => ends_respond _ ?_
    simp only [Config.nsymMax] at hc
    exact .startBlock (by omega) (by omega)
  | rsdata a =>
    refine ends_gated_check (by decide) fun he hp hn => ?_
    split
    · exact ends_raise he _
    · next hd => exact ends_respond _ (.feedBlock hn (by simpa [Config.rsNMax] using hd))
  | rsrd a =>
    refine ends_gated_check (by decide) fun he _ _ => ?_
    split
    · exact ends_raise he _
    · exact ends_respond _ (.unchanged rfl)
  | rsgen a =>
    refine ends_gated_check (by decide) fun he _ _ => ?_
    split
    · exact ends_raise he _
    · exact ends_respond _ (.unchanged rfl)
  | mxinit =>
    refine ends_gated fun he hp => ?_
    split
    · exact ends_respond _ (.alloc (eq_of_beq hp) ‹_›)
    · exact ends_raise he _
  | mxfind => exact ends_gated fun _ hp => ends_respond _ (.finders (eq_of_beq hp))
  | mxtime => exact ends_gated fun _ hp => ends_respond _ (.timing (eq_of_beq hp))
  | mxalign => exact ends_gated fun _ hp => ends_respond _ (.alignment (eq_of_beq hp))
  | mxrsv => exact ends_gated fun _ hp => ends_respond _ (.reserve (eq_of_beq hp))
  | mxdata => exact ends_gated_check (by decide) fun _ hp _ => ends_respond _ (.data (eq_of_beq hp))
  | mxbuild =>
    refine ends_gated fun he hp => ?_
    split
    · simp only
      split
      · exact ends_raise he _
      · exact ends_respond _ (.build (eq_of_beq hp) ‹_›)
    · exact ends_raise he _
  | mskeval a =>
    exact ends_gated_check (by decide) fun _ hp ha => ends_respond _ (.evaluate (eq_of_beq hp) (not_lt.1 ha))
  | msksel => exact ends_gated fun _ hp => ends_respond _ (.select (eq_of_beq hp))
  | mskforce a =>
    exact ends_gated_check (by decide) fun _ hp ha => ends_respond _ (.force (eq_of_beq hp) (not_lt.1 ha))
  | final => exact ends_gated fun _ hp => ends_respond _ (.final (eq_of_beq hp))
  | cwpush a => exact ends_gated_check (by decide) fun _ hp hl => ends_respond _ (.push hl (of_decide_eq_true hp))
  | cwrd h => exact ends_gated_check (by decide) fun _ _ _ => ends_respond _ (.unchanged rfl)
  | gridrd a b => exact ends_gated_check (by decide) fun _ _ _ => ends_respond _ (.unchanged rfl)

/-! ## What a step does -/

/-- The state with the host's actions still to come replaced. -/
def State.withPending (s : State) (q : List HostAction) : State := { s with pending := q }

/-- A step with an action pending resets, meets a word that is no command, or executes a command. -/
inductive Stepped (s : State) : Result → Prop where
  | idle (h : s.pending = []) : Stepped s (.next s)
  | reset {rest : List HostAction} (h : s.pending = .reset :: rest) :
      Stepped s (.next (s.withPending rest).resetRegisters)
  | illegal {w : Word} {rest : List HostAction} (h : s.pending = .command w :: rest) :
      Stepped s (illegalCommand w (s.withPending rest))
  | command {w : Word} {rest : List HostAction} {i : Instr} (h : s.pending = .command w :: rest)
      (hd : decode w = some i) : Stepped s (exec i (s.withPending rest))

theorem step_stepped (s : State) : Stepped s (step s) := by
  unfold step
  split
  · exact .idle ‹_›
  · exact .reset ‹_›
  · simp only
    split
    · exact .illegal ‹_›
    · exact .command ‹_› ‹_›

/-- A predicate that reset, refusals, faults and the effects of the commands keep, and that does not look at the port,
is kept by every step. -/
theorem step_keeps {P : State → Prop} (hport : ∀ (s : State) q r, P s → P { s with pending := q, responses := r })
    (hreset : ∀ s : State, P s → P s.resetRegisters)
    (hfault : ∀ (s : State) e w, s.phase ≠ .error → e ≠ .unencodableInput ∧ e ≠ .dataTooLarge → P s →
      P (s.faulted e w))
    (heffect : ∀ (s t : State) i, Effect s i t → P s → P t) {s t : State} (hs : P s) (h : step s = .next t) : P t := by
  have hstep := step_stepped s
  rw [h] at hstep
  generalize hr : Host.Outcome.next t = r at hstep
  cases hstep with
  | idle => cases hr; exact hs
  | reset => cases hr; exact hreset _ (hport s _ _ hs)
  | @illegal w rest _ =>
    have hq : P (s.withPending rest) := hport s _ _ hs
    rw [illegalCommand, raiseOrRefuse_eq] at hr
    cases hr
    split
    · exact hport _ _ _ hq
    · exact hfault _ _ _ ‹_› (by decide) hq
  | @command w rest i _ _ =>
    have hq : P (s.withPending rest) := hport s _ _ hs
    have hends := exec_ends i (s.withPending rest)
    rw [← hr] at hends
    cases hends with
    | refused => exact hport _ _ _ hq
    | faulted hp e he => exact hfault _ _ _ hp he hq
    | answered heff v => exact hport _ _ _ (heffect _ _ _ heff hq)

end Sys2Proof.Machine
end

section
/-! A word that decodes is the encoding of its command, which ties a pending word to the command it spells
(30_encoding.md R80 to R82). -/

namespace Sys2Proof.Machine

/-- Two adjacent fields of a word make one field. -/
theorem fields_join (w : Word) {lo n m : Nat} :
    w.extractLsb' (lo + n) m ++ w.extractLsb' lo n = w.extractLsb' lo (m + n) :=
  BitVec.extractLsb'_append_extractLsb'_eq_extractLsb' rfl

/-- The field of all 32 bits is the word. -/
theorem fields_all (w : Word) : w.extractLsb' 0 32 = w := BitVec.extractLsb'_eq_self

theorem encode_of_decodeZ {w : Word} {i j : Instr} (op : Byte) (hop : (opField w).toNat = op.toNat)
    (h : decodeZ w i = some j) (he : encode i = encodeZ op) : encode j = w := by
  obtain rfl := BitVec.eq_of_toNat_eq hop
  unfold decodeZ at h
  split at h
  · next hz =>
    cases h
    calc encode i = opField w ++ w.extractLsb' 0 24 := by rw [he, hz]; rfl
      _ = w := (fields_join w).trans (fields_all w)
  · cases h

theorem encode_of_decodeB {w : Word} {f : Byte → Instr} {j : Instr} (op : Byte)
    (hop : (opField w).toNat = op.toNat) (h : decodeB w f = some j) (he : ∀ a, encode (f a) = encodeB op a) :
    encode j = w := by
  obtain rfl := BitVec.eq_of_toNat_eq hop
  unfold decodeB at h
  split at h
  · next hz =>
    cases h
    calc encode (f (lowField w)) = opField w ++ w.extractLsb' 8 16 ++ lowField w := by rw [he, hz]; rfl
      _ = w.extractLsb' 8 24 ++ lowField w := congrArg (· ++ lowField w) (fields_join w)
      _ = w := (fields_join w).trans (fields_all w)
  · cases h

theorem encode_of_decodeBB {w : Word} {f : Byte → Byte → Instr} {j : Instr} (op : Byte)
    (hop : (opField w).toNat = op.toNat) (h : decodeBB w f = some j)
    (he : ∀ a b, encode (f a b) = encodeBB op a b) : encode j = w := by
  obtain rfl := BitVec.eq_of_toNat_eq hop
  unfold decodeBB at h
  split at h
  · next hz =>
    cases h
    calc encode (f (midField w) (lowField w))
        = opField w ++ w.extractLsb' 16 8 ++ midField w ++ lowField w := by rw [he, hz]; rfl
      _ = w.extractLsb' 16 16 ++ midField w ++ lowField w :=
          congrArg (· ++ midField w ++ lowField w) (fields_join w)
      _ = w.extractLsb' 8 24 ++ lowField w := congrArg (· ++ lowField w) (fields_join w)
      _ = w := (fields_join w).trans (fields_all w)
  · cases h

theorem encode_of_decodeH {w : Word} {f : BitVec 16 → Instr} {j : Instr} (op : Byte)
    (hop : (opField w).toNat = op.toNat) (h : decodeH w f = some j) (he : ∀ x, encode (f x) = encodeH op x) :
    encode j = w := by
  obtain rfl := BitVec.eq_of_toNat_eq hop
  unfold decodeH at h
  split at h
  · next hz =>
    cases h
    calc encode (f (halfField w)) = opField w ++ w.extractLsb' 16 8 ++ halfField w := by rw [he, hz]; rfl
      _ = w.extractLsb' 16 16 ++ halfField w := congrArg (· ++ halfField w) (fields_join w)
      _ = w := (fields_join w).trans (fields_all w)
  · cases h

/-- A numeric operand of format `B` fills its field with the byte it comes from. -/
theorem encodeB_number (op a : Byte) : encodeB op (byteOf a.toNat) = encodeB op a := by
  rw [byteOf, BitVec.ofNat_toNat, BitVec.setWidth_eq]

theorem encodeBB_numbers (op a b : Byte) : encodeBB op (byteOf a.toNat) (byteOf b.toNat) = encodeBB op a b := by
  simp only [byteOf, BitVec.ofNat_toNat, BitVec.setWidth_eq]

theorem encodeH_number (op : Byte) (x : BitVec 16) : encodeH op (BitVec.ofNat 16 x.toNat) = encodeH op x := by
  rw [BitVec.ofNat_toNat, BitVec.setWidth_eq]

/-- No two words spell one command. -/
theorem encode_of_decode {w : Word} {i : Instr} (h : decode w = some i) : encode i = w := by
  unfold decode at h
  split at h
  · exact encode_of_decodeZ 0x00 ‹_› h rfl
  · exact encode_of_decodeZ 0x01 ‹_› h rfl
  · exact encode_of_decodeB 0x02 ‹_› h (encodeB_number _)
  · exact encode_of_decodeB 0x03 ‹_› h (encodeB_number _)
  · exact encode_of_decodeB 0x04 ‹_› h (encodeB_number _)
  · exact encode_of_decodeBB 0x10 ‹_› h fun _ _ => rfl
  · exact encode_of_decodeBB 0x11 ‹_› h fun _ _ => rfl
  · exact encode_of_decodeBB 0x12 ‹_› h fun _ _ => rfl
  · exact encode_of_decodeB 0x13 ‹_› h (encodeB_number _)
  · exact encode_of_decodeB 0x14 ‹_› h fun _ => rfl
  · exact encode_of_decodeB 0x20 ‹_› h (encodeB_number _)
  · exact encode_of_decodeB 0x21 ‹_› h fun _ => rfl
  · exact encode_of_decodeB 0x22 ‹_› h (encodeB_number _)
  · exact encode_of_decodeB 0x23 ‹_› h (encodeB_number _)
  · exact encode_of_decodeZ 0x30 ‹_› h rfl
  · exact encode_of_decodeZ 0x31 ‹_› h rfl
  · exact encode_of_decodeZ 0x32 ‹_› h rfl
  · exact encode_of_decodeZ 0x33 ‹_› h rfl
  · exact encode_of_decodeZ 0x34 ‹_› h rfl
  · exact encode_of_decodeZ 0x35 ‹_› h rfl
  · exact encode_of_decodeZ 0x36 ‹_› h rfl
  · exact encode_of_decodeB 0x40 ‹_› h (encodeB_number _)
  · exact encode_of_decodeZ 0x41 ‹_› h rfl
  · exact encode_of_decodeB 0x42 ‹_› h (encodeB_number _)
  · exact encode_of_decodeZ 0x43 ‹_› h rfl
  · exact encode_of_decodeB 0x50 ‹_› h fun _ => rfl
  · exact encode_of_decodeH 0x51 ‹_› h (encodeH_number _)
  · exact encode_of_decodeBB 0x52 ‹_› h (encodeBB_numbers _)
  · cases h

end Sys2Proof.Machine
end

section
/-! The phases a step moves between (10_state.md R25) and the immutable grid of phase `FINAL` (10_state.md R44). -/

namespace Sys2Proof.Machine

/-- The moves of the phase that a success makes. -/
theorem Effect.phase_move {s t : State} {i : Instr} (h : Effect s i t) :
    t.phase = s.phase ∨ t.phase.code = s.phase.code + 1 ∨ (i = .mxbuild ∧ s.phase = .idle ∧ t.phase = .placed) ∨
      (i = .sreset ∧ t.phase = .idle) := by
  have next {p : Phase} {n : Nat} (hp : s.phase = p) (hn : n = p.code + 1) : n = s.phase.code + 1 := by rw [hp, hn]
  cases h with
  | unchanged | setVersion | setLevel | startBlock | feedBlock | evaluate | push => exact .inl rfl
  | reset => exact .inr (.inr (.inr ⟨rfl, rfl⟩))
  | build hp => exact .inr (.inr (.inl ⟨rfl, hp, rfl⟩))
  | alloc hp | finders hp | timing hp | alignment hp | reserve hp | data hp | select hp | force hp | final hp =>
    exact .inr (.inl (next hp rfl))

/-- Settles O13: `step_stepped` gives what a step meets, `exec_ends` how a command ends, `Effect.phase_move` the
phase after a success. -/
theorem phaseOnlyMovesForward : Obligations.PhaseOnlyMovesForward := by
  intro s t h
  have hstep := step_stepped s
  rw [h] at hstep
  generalize hr : Host.Outcome.next t = r at hstep
  cases hstep with
  | idle => cases hr; exact .inl rfl
  | reset hq => cases hr; exact .inr (.inr (.inr (.inr ⟨rfl, .inl ⟨_, hq⟩⟩)))
  | illegal hq =>
    rw [illegalCommand, raiseOrRefuse_eq] at hr
    cases hr
    split
    · exact .inl rfl
    · next hp => exact .inr (.inr (.inr (.inl ⟨hp, rfl, rfl⟩)))
  | @command w rest i hq hd =>
    obtain rfl : encode i = w := encode_of_decode hd
    have hends := exec_ends i (s.withPending rest)
    rw [← hr] at hends
    cases hends with
    | refused => exact .inl rfl
    | faulted hp => exact .inr (.inr (.inr (.inl ⟨hp, rfl, rfl⟩)))
    | answered heff =>
      rcases heff.phase_move with hm | hm | ⟨rfl, hi, hm⟩ | ⟨rfl, hm⟩
      · exact .inl hm
      · exact .inr (.inl hm)
      · exact .inr (.inr (.inl ⟨hi, hm, _, hq⟩))
      · exact .inr (.inr (.inr (.inr ⟨hm, .inr ⟨_, hq⟩⟩)))

/-- A success in phase `FINAL` writes neither the grid nor, `SRESET` apart, what the symbol is made of. -/
theorem Effect.final_unchanged {s t : State} {i : Instr} (hf : s.phase = .final) (h : Effect s i t) :
    t.grid = s.grid ∧ (i ≠ .sreset → t.version = s.version ∧ t.ecl = s.ecl ∧ t.mask = s.mask) := by
  have other {p : Phase} (hp : s.phase = p) (hne : p ≠ .final) : False := hne (hp.symm.trans hf)
  cases h with
  | unchanged | startBlock | feedBlock | push => exact ⟨rfl, fun _ => ⟨rfl, rfl, rfl⟩⟩
  | reset => exact ⟨rfl, fun h => absurd rfl h⟩
  | setVersion hp | setLevel hp | alloc hp | finders hp | timing hp | alignment hp | reserve hp | data hp | build hp
  | evaluate hp | select hp | force hp | final hp => exact (other hp (by decide)).elim

/-- Settles O17: a refusal and a fault write neither, and of the successes none does in phase `FINAL`. -/
theorem finishedGridImmutable : Obligations.FinishedGridImmutable := by
  intro i s t hf h
  have hends := exec_ends i s
  rw [h] at hends
  cases hends with
  | refused | faulted => exact ⟨rfl, fun _ => ⟨rfl, rfl, rfl⟩⟩
  | answered heff =>
    obtain ⟨hgrid, hrest⟩ := heff.final_unchanged hf
    exact ⟨hgrid, hrest⟩

end Sys2Proof.Machine
end

section
/-! The register and grid reads (44_system.md R204, R207) and the values after reset (70_reset_and_hazards.md R250). -/

namespace Sys2Proof.Machine

/-! ## `RDREG` -/

theorem exec_rdreg_some {s : State} {n : Nat} {v : Value} (h : s.controlRegister n = some v) :
    exec (.rdreg n) s = .next (s.answered v.toNat) := by
  simp only [exec, execRdreg, h, respond_eq]

theorem exec_rdreg_none {s : State} {n : Nat} (h : s.controlRegister n = none) :
    exec (.rdreg n) s =
      .next (if s.phase = .error then s.refusedNow else s.faulted .rangeError (encode (.rdreg n))) := by
  simp only [exec, execRdreg, h, raiseOrRefuse_eq]

/-- A register narrower than a response is read zero-extended (10_state.md R22). -/
theorem exec_rdreg_narrow {s : State} {n k : Nat} {v : BitVec k} (hk : k ≤ 31)
    (h : s.controlRegister n = some (valueOf v)) : exec (.rdreg n) s = .next (s.answered v.toNat) := by
  rw [exec_rdreg_some h, valueOf_toNat hk]

theorem controlRegister_undefined (s : State) {n : Nat} (h : ¬(n ≤ 0x0A ∨ (0x10 ≤ n ∧ n ≤ 0x1D))) :
    s.controlRegister n = none := by
  unfold State.controlRegister
  split
  case h_26 => rfl
  all_goals omega

theorem Phase.code_lt (p : Phase) : p.code < 16 := by cases p <;> decide

/-- The phases that are neither `IDLE` nor `ERROR` are 1 to 8. -/
theorem Phase.code_of_ne {p : Phase} (he : p ≠ .error) (hi : p ≠ .idle) : 1 ≤ p.code ∧ p.code ≤ 8 := by
  revert he hi
  cases p <;> decide

theorem errCode_lt (e : Option ErrorName) : errCode e < 16 := by
  rcases e with _ | e
  · decide
  · cases e <;> decide

theorem Level.code_lt (e : Level) : e.code < 4 := by cases e <;> decide

/-- The number of a concatenation. -/
theorem append_toNat {n m : Nat} (x : BitVec n) (y : BitVec m) : (x ++ y).toNat = x.toNat * 2 ^ m + y.toNat := by
  rw [BitVec.toNat_append, ← Nat.shiftLeft_add_eq_or_of_lt y.isLt, Nat.shiftLeft_eq]

/-- The packing of `STATUS` as a number (10_state.md R24). -/
theorem status_toNat (s : State) : s.status.toNat =
    s.phase.code + 16 * errCode s.err + 256 * s.ephase.code + 4096 * s.eclv.toNat + 65536 * s.penv.toNat := by
  have hp := Nat.mod_eq_of_lt s.phase.code_lt
  have he := Nat.mod_eq_of_lt (errCode_lt s.err)
  have hep := Nat.mod_eq_of_lt s.ephase.code_lt
  simp only [State.status, append_toNat, BitVec.toNat_ofNat, BitVec.toNat_ofBool, Nat.reducePow, hp, he, hep]
  omega

/-- Settles O57: one read lemma for the wide registers, one for the narrow ones, `status_toNat` for `STATUS`. -/
theorem readRegister : Obligations.ReadRegister := by
  refine ⟨rfl, rfl, fun _ => rfl, rfl, rfl, fun s => ⟨fun _ => rfl, ?_, fun n hn => ?_⟩⟩
  · have hstatus : exec (.rdreg 0x01) s = .next (s.answered (s.phase.code + 16 * errCode s.err +
        256 * s.ephase.code + 4096 * s.eclv.toNat + 65536 * s.penv.toNat)) := by
      rw [exec_rdreg_some rfl, status_toNat]
    have hecl : exec (.rdreg 0x03) s = .next (s.answered s.ecl.code) := by
      rw [exec_rdreg_some rfl, valueOfNat_toNat (s.ecl.code_lt.trans (by decide))]
    have wide {n : Nat} {v : Value} (h : s.controlRegister n = some v) := exec_rdreg_some h
    have narrow {n k : Nat} {v : BitVec k} (hk : k ≤ 31) (h : s.controlRegister n = some (valueOf v)) :=
      exec_rdreg_narrow hk h
    simp only [List.cons_append, List.nil_append, List.forall_mem_cons, List.not_mem_nil, false_imp_iff,
      forall_true_iff]
    exact ⟨wide (v := idValue) rfl, hstatus, narrow (by decide) rfl, hecl, narrow (by decide) rfl,
      narrow (by decide) rfl, narrow (by decide) rfl, narrow (by decide) rfl, narrow (by decide) rfl,
      narrow (by decide) rfl, wide rfl, wide rfl, wide rfl, wide rfl, wide rfl, wide rfl, wide rfl, wide rfl,
      wide rfl, narrow (by decide) rfl, wide rfl, wide rfl, wide rfl, wide rfl, narrow (by decide) rfl, trivial⟩
  · exact exec_rdreg_none (controlRegister_undefined s hn)

/-! ## `GRIDRD` -/

/-- Every gated command has the common outcomes (60_exceptions.md R227). -/
theorem commonOutcomes_of_gated {i : Instr} {s : State} {body : Result} (h : exec i s = gated i s body) :
    CommonOutcomes i s := by
  refine ⟨fun he => h.trans (gated_of_error he), fun he hp => h.trans (gated_of_not_accepted he ?_)⟩
  rwa [← accepted_iff, Bool.not_eq_true] at hp

/-- `GRIDRD` before any grid is allocated. -/
theorem exec_gridrd_idle {s : State} (a b : Nat) (hi : s.phase = .idle) :
    exec (.gridrd a b) s = .next (s.faulted .sequenceError (encode (.gridrd a b))) := by
  have hcommon : CommonOutcomes (.gridrd a b) s := commonOutcomes_of_gated rfl
  exact hcommon.2 (by simp [hi]) (by simp [hi, acceptedCodes, Phase.code])

/-- `GRIDRD` where the phase accepts it. -/
theorem exec_gridrd_accepted {s : State} (a b : Nat) (he : s.phase ≠ .error) (hi : s.phase ≠ .idle) :
    exec (.gridrd a b) s =
      if s.size.toNat ≤ a ∨ s.size.toNat ≤ b then .next (s.faulted .rangeError (encode (.gridrd a b)))
      else .next (s.answered (valueOf (s.cell a b).bits).toNat) := by
  have hacc : accepted (.gridrd a b) s.phase = true := decide_eq_true (Phase.code_of_ne he hi)
  rw [← raise_eq, ← respond_eq]
  exact gated_of_accepted he hacc

/-- The value of `{FN, ST}` (44_system.md R207). -/
theorem bits_toNat (x : GridCell) : (valueOf x.bits).toNat = 4 * x.fn.toNat + x.st.code := by
  obtain ⟨st, fn⟩ := x
  cases st <;> cases fn <;> rfl

/-- Settles O60: the shared outcomes by `commonOutcomes_of_gated`, then the check of the two indices. -/
theorem gridRead : Obligations.GridRead := by
  intro a b s
  refine ⟨rfl, commonOutcomes_of_gated rfl, fun he => ⟨exec_gridrd_idle a b, fun hi ha hb => ?_, fun hi hab => ?_⟩⟩
  · rw [exec_gridrd_accepted a b he hi, if_neg (by omega), bits_toNat]
    cases (s.cell a b).st <;> rfl
  · rw [exec_gridrd_accepted a b he hi, if_pos hab]

/-! ## The state after reset -/

/-- After reset every register but `ID` reads 0. -/
theorem reset_controlRegister {n : Nat} (h : n ≤ 0x0A ∨ (0x10 ≤ n ∧ n ≤ 0x1D)) (hn : n ≠ 0) :
    State.reset.controlRegister n = some 0 := by
  have hall : ∀ n < 0x1E, (n ≤ 0x0A ∨ 0x10 ≤ n) → n ≠ 0 → State.reset.controlRegister n = some 0 := by decide
  exact hall n (by omega) (by omega) hn

/-- A command that phase `IDLE` accepts is not stopped by the phase check right after reset. -/
theorem gated_reset {i : Instr} {body : Result} (h : accepted i .idle = true) : gated i State.reset body = body :=
  gated_of_accepted (by decide) h

/-- Settles O7: the registers are those of `State.reset`, and each array read meets its guard. -/
theorem resetValues : Obligations.ResetValues := by
  refine ⟨?_, exec_rdreg_some (v := idValue) rfl, fun n hn h0 => exec_rdreg_some (reset_controlRegister hn h0),
    fun a => ?_, fun a => ?_, fun h => ?_, fun a b => ?_⟩
  · unfold State.RegistersAtReset
    decide
  · rw [← raise_eq]
    exact gated_reset (i := .rsrd a) rfl
  · rw [← raise_eq]
    exact gated_reset (i := .rsgen a) rfl
  · rw [← raise_eq]
    calc exec (.cwrd h) State.reset
        = if State.reset.cwlen.toNat ≤ h then raise .rangeError (encode (.cwrd h)) State.reset
          else respond (valueOf (State.reset.codeword h)) State.reset := gated_reset (i := .cwrd h) rfl
      _ = raise .rangeError (encode (.cwrd h)) State.reset := if_pos (Nat.zero_le h)
  · exact exec_gridrd_idle a b rfl

end Sys2Proof.Machine
end

section
/-! Where the cells that the commands write lie, and what states they write there (42_matrix.md R142 to R155,
43_mask.md R180, R185): every write stays inside the grid. -/

namespace Sys2Proof.Machine

/-- Every listed cell lies in a grid of side `n`. -/
def Within (n : Nat) (cells : List (Pos × ModuleState)) : Prop := ∀ e ∈ cells, e.1.1 < n ∧ e.1.2 < n

theorem Within.mono {n m : Nat} {cells : List (Pos × ModuleState)} (h : Within n cells) (hle : n ≤ m) :
    Within m cells := fun e he => ⟨(h e he).1.trans_le hle, (h e he).2.trans_le hle⟩

/-- A module that is dark or light. -/
def Coloured (x : ModuleState) : Prop := x = .dark ∨ x = .light

theorem Coloured.ne_unset {x : ModuleState} (h : Coloured x) : x ≠ .unset := by
  rcases h with rfl | rfl <;> decide

theorem Coloured.ne_reserved {x : ModuleState} (h : Coloured x) : x ≠ .reserved := by
  rcases h with rfl | rfl <;> decide

theorem moduleOfBit_coloured (b : Bool) : Coloured (moduleOfBit b) := by
  cases b
  · exact .inr rfl
  · exact .inl rfl

/-- A choice between two coloured modules is coloured. -/
theorem coloured_ite {c : Prop} [Decidable c] {x y : ModuleState} (hx : Coloured x) (hy : Coloured y) :
    Coloured (if c then x else y) := by
  split
  · exact hx
  · exact hy

/-! ## Finder patterns -/

theorem mem_intRange {lo hi x : Int} : x ∈ intRange lo hi ↔ lo ≤ x ∧ x ≤ hi := by
  simp only [intRange, List.bind_eq_flatMap, List.pure_def, List.mem_map, List.mem_flatMap, List.mem_range,
    List.mem_singleton]
  constructor
  · rintro ⟨_, ⟨k, hk, rfl⟩, rfl⟩
    omega
  · rintro ⟨h1, h2⟩
    exact ⟨_, ⟨(x - lo).toNat, by omega, rfl⟩, by omega⟩

theorem mem_finderCells {n : Nat} {r0 c0 : Int} {e : Pos × ModuleState} : e ∈ finderCells n r0 c0 ↔
    ∃ dr dc : Int, (-1 ≤ dr ∧ dr ≤ 7) ∧ (-1 ≤ dc ∧ dc ≤ 7) ∧
      (0 ≤ r0 + dr ∧ r0 + dr < n ∧ 0 ≤ c0 + dc ∧ c0 + dc < n) ∧
      e = (((r0 + dr).toNat, (c0 + dc).toNat), finderColour dr dc) := by
  simp only [finderCells, List.mem_flatMap, List.mem_filterMap, mem_intRange, Option.ite_none_right_eq_some,
    Option.some.injEq]
  constructor
  · rintro ⟨dr, hr, dc, hc, hin, rfl⟩
    exact ⟨dr, dc, hr, hc, hin, rfl⟩
  · rintro ⟨dr, dc, hr, hc, hin, rfl⟩
    exact ⟨dr, hr, dc, hc, hin, rfl⟩

theorem finderColour_coloured (dr dc : Int) : Coloured (finderColour dr dc) :=
  coloured_ite (coloured_ite (.inr rfl) (.inl rfl)) (.inr rfl)

theorem finderCells_within (n : Nat) (r0 c0 : Int) : Within n (finderCells n r0 c0) := by
  intro e he
  obtain ⟨dr, dc, _, _, hin, rfl⟩ := mem_finderCells.1 he
  simp only
  omega

theorem finderCells_coloured {n : Nat} {r0 c0 : Int} {e : Pos × ModuleState} (he : e ∈ finderCells n r0 c0) :
    Coloured e.2 := by
  obtain ⟨dr, dc, _, _, _, rfl⟩ := mem_finderCells.1 he
  exact finderColour_coloured dr dc

/-- What holds of the cells of every finder holds of the cells of the three. -/
theorem forall_allFinderCells {n : Nat} {Q : Pos × ModuleState → Prop}
    (h : ∀ r0 c0 : Int, ∀ e ∈ finderCells n r0 c0, Q e) : ∀ e ∈ allFinderCells n, Q e := by
  intro e he
  simp only [allFinderCells, List.mem_append] at he
  rcases he with (he | he) | he
  · exact h _ _ e he
  · exact h _ _ e he
  · exact h _ _ e he

theorem allFinderCells_within (n : Nat) : Within n (allFinderCells n) :=
  forall_allFinderCells fun r0 c0 => finderCells_within n r0 c0

theorem allFinderCells_coloured (n : Nat) : ∀ e ∈ allFinderCells n, Coloured e.2 :=
  forall_allFinderCells fun _ _ _ => finderCells_coloured

/-- The finders cover both ends of column 6. -/
theorem allFinderCells_column6 {n r : Nat} (hn : 8 ≤ n) (hr : r < n) (hend : r < 8 ∨ n ≤ r + 8) :
    ∃ v, ((r, 6), v) ∈ allFinderCells n := by
  simp only [allFinderCells, List.mem_append, mem_finderCells]
  rcases hend with hend | hend
  · exact ⟨finderColour r 6, .inl (.inl ⟨r, 6, by omega, by omega, by omega, by simp⟩)⟩
  · exact ⟨finderColour (r - (n - 7)) 6, .inr ⟨r - (n - 7), 6, by omega, by omega, by omega, by simp⟩⟩

/-! ## Timing patterns -/

theorem mem_timingCells {n : Nat} {e : Pos × ModuleState} : e ∈ timingCells n ↔
    ∃ k, (8 ≤ k ∧ k < 8 + (n - 16)) ∧ (e = ((6, k), timingColour k) ∨ e = ((k, 6), timingColour k)) := by
  simp only [timingCells, List.mem_flatMap, List.mem_range'_1, List.mem_cons, List.not_mem_nil, or_false]

theorem timingCells_within (n : Nat) : Within n (timingCells n) := by
  intro e he
  obtain ⟨k, hk, rfl | rfl⟩ := mem_timingCells.1 he
  · simp only; omega
  · simp only; omega

theorem timingCells_coloured {n : Nat} {e : Pos × ModuleState} (he : e ∈ timingCells n) : Coloured e.2 := by
  obtain ⟨k, hk, rfl | rfl⟩ := mem_timingCells.1 he
  · exact coloured_ite (.inl rfl) (.inr rfl)
  · exact coloured_ite (.inl rfl) (.inr rfl)

/-! ## Alignment patterns -/

/-- The centres of a version stand well inside its grid. -/
theorem alignCentres_le : ∀ v ≤ 40, ∀ c ∈ alignCentres v, 6 ≤ c ∧ c ≤ 4 * v + 10 := by decide

theorem mem_alignPattern {r c : Nat} {e : Pos × ModuleState} : e ∈ alignPattern r c ↔
    ∃ dr dc : Int, (-2 ≤ dr ∧ dr ≤ 2) ∧ (-2 ≤ dc ∧ dc ≤ 2) ∧
      e = ((((r : Int) + dr).toNat, ((c : Int) + dc).toNat), if ringDist dr dc = 1 then .light else .dark) := by
  simp only [alignPattern, List.mem_flatMap, List.mem_map, mem_intRange]
  constructor
  · rintro ⟨dr, hr, dc, hc, rfl⟩
    exact ⟨dr, dc, hr, hc, rfl⟩
  · rintro ⟨dr, dc, hr, hc, rfl⟩
    exact ⟨dr, hr, dc, hc, rfl⟩

/-- An alignment cell belongs to the pattern about two centres. -/
theorem exists_centre_of_mem_alignCells {v : Nat} {e : Pos × ModuleState} (he : e ∈ alignCells v) :
    ∃ r ∈ alignCentres v, ∃ c ∈ alignCentres v, e ∈ alignPattern r c := by
  simp only [alignCells, List.mem_flatMap] at he
  obtain ⟨r, hr, c, hc, he⟩ := he
  split at he
  · exact absurd he List.not_mem_nil
  · exact ⟨r, hr, c, hc, he⟩

theorem alignCells_within {v : Nat} (hv : v ≤ 40) : Within (4 * v + 17) (alignCells v) := by
  intro e he
  obtain ⟨r, hr, c, hc, he⟩ := exists_centre_of_mem_alignCells he
  obtain ⟨dr, dc, hdr, hdc, rfl⟩ := mem_alignPattern.1 he
  have hr := alignCentres_le v hv r hr
  have hc := alignCentres_le v hv c hc
  simp only
  omega

theorem alignCells_coloured {v : Nat} {e : Pos × ModuleState} (he : e ∈ alignCells v) : Coloured e.2 := by
  obtain ⟨r, _, c, _, he⟩ := exists_centre_of_mem_alignCells he
  obtain ⟨dr, dc, _, _, rfl⟩ := mem_alignPattern.1 he
  exact coloured_ite (.inr rfl) (.inl rfl)

/-! ## Format and version areas -/

theorem formatCell1_within {n i : Nat} (hn : 21 ≤ n) (hi : i < 15) :
    (formatCell1 i).1 < n ∧ (formatCell1 i).2 < n := by
  unfold formatCell1
  grind

theorem formatCell2_within {n i : Nat} (hn : 21 ≤ n) (hi : i < 15) :
    (formatCell2 n i).1 < n ∧ (formatCell2 n i).2 < n := by
  unfold formatCell2
  grind

theorem versionCell1_within {n i : Nat} (hn : 21 ≤ n) (hi : i < 18) :
    (versionCell1 n i).1 < n ∧ (versionCell1 n i).2 < n := by
  simp only [versionCell1]
  omega

theorem mem_informationPositions {v n : Nat} {p : Pos} : p ∈ informationPositions v n ↔
    (∃ i < 15, p = formatCell1 i ∨ p = formatCell2 n i) ∨
      (7 ≤ v ∧ ∃ i < 18, p = versionCell1 n i ∨ p = versionCell2 n i) := by
  simp only [informationPositions, List.mem_ite_nil_right, List.mem_append, List.mem_flatMap, List.mem_range,
    List.mem_cons, List.not_mem_nil, or_false]

theorem informationPositions_within {v n : Nat} (hn : 21 ≤ n) {p : Pos} (hp : p ∈ informationPositions v n) :
    p.1 < n ∧ p.2 < n := by
  rcases mem_informationPositions.1 hp with ⟨i, hi, rfl | rfl⟩ | ⟨_, i, hi, rfl | rfl⟩
  · exact formatCell1_within hn hi
  · exact formatCell2_within hn hi
  · exact versionCell1_within hn hi
  · exact (versionCell1_within hn hi).symm

theorem mem_reservedCells {v n : Nat} {e : Pos × ModuleState} : e ∈ reservedCells v n ↔
    (e.1 ∈ informationPositions v n ∧ e.2 = .reserved) ∨ e = ((n - 8, 8), .dark) := by
  obtain ⟨p, x⟩ := e
  simp only [reservedCells, mem_informationPositions, List.mem_ite_nil_right, List.mem_append, List.mem_flatMap,
    List.mem_range, List.mem_cons, List.not_mem_nil, or_false, Prod.mk.injEq, ← or_and_right]
  constructor
  · rintro ((⟨i, hi, hp, hx⟩ | hd) | ⟨hv, i, hi, hp, hx⟩)
    · exact .inl ⟨.inl ⟨i, hi, hp⟩, hx⟩
    · exact .inr hd
    · exact .inl ⟨.inr ⟨hv, i, hi, hp⟩, hx⟩
  · rintro (⟨⟨i, hi, hp⟩ | ⟨hv, i, hi, hp⟩, hx⟩ | hd)
    · exact .inl (.inl ⟨i, hi, hp, hx⟩)
    · exact .inr ⟨hv, i, hi, hp, hx⟩
    · exact .inl (.inr hd)

theorem reservedCells_within {v n : Nat} (hn : 21 ≤ n) : Within n (reservedCells v n) := by
  intro e he
  rcases mem_reservedCells.1 he with ⟨hp, _⟩ | rfl
  · exact informationPositions_within hn hp
  · simp only
    omega

theorem mem_informationCells {s : State} {e : Pos × ModuleState} : e ∈ informationCells s ↔
    (∃ i < 15, (e.1 = formatCell1 i ∨ e.1 = formatCell2 s.size.toNat i) ∧
      e.2 = moduleOfBit ((formatWord s.ecl s.mask).getLsbD i)) ∨
    (7 ≤ s.version.toNat ∧ ∃ i < 18, (e.1 = versionCell1 s.size.toNat i ∨ e.1 = versionCell2 s.size.toNat i) ∧
      e.2 = moduleOfBit ((versionWord s.version).getLsbD i)) := by
  obtain ⟨p, x⟩ := e
  simp only [informationCells, List.mem_ite_nil_right, List.mem_append, List.mem_flatMap, List.mem_range,
    List.mem_cons, List.not_mem_nil, or_false, Prod.mk.injEq, ← or_and_right]
  rfl

/-- `FINAL` writes colours into the information positions. -/
theorem informationCells_mem {s : State} {e : Pos × ModuleState} (he : e ∈ informationCells s) :
    e.1 ∈ informationPositions s.version.toNat s.size.toNat ∧ Coloured e.2 := by
  rw [mem_informationPositions]
  rcases mem_informationCells.1 he with ⟨i, hi, hp, hx⟩ | ⟨hv, i, hi, hp, hx⟩
  · exact ⟨.inl ⟨i, hi, hp⟩, hx ▸ moduleOfBit_coloured _⟩
  · exact ⟨.inr ⟨hv, i, hi, hp⟩, hx ▸ moduleOfBit_coloured _⟩

/-- `FINAL` writes every information position. -/
theorem exists_mem_informationCells {s : State} {p : Pos}
    (hp : p ∈ informationPositions s.version.toNat s.size.toNat) : ∃ x, (p, x) ∈ informationCells s := by
  rcases mem_informationPositions.1 hp with ⟨i, hi, hp⟩ | ⟨hv, i, hi, hp⟩
  · exact ⟨_, mem_informationCells.2 (.inl ⟨i, hi, hp, rfl⟩)⟩
  · exact ⟨_, mem_informationCells.2 (.inr ⟨hv, i, hi, hp, rfl⟩)⟩

/-! ## Data cells and mask flips -/

theorem mem_maskFlips {m n : Nat} {g : Grid} {e : Pos × ModuleState} : e ∈ maskFlips m n g ↔
    (e.1.1 < n ∧ e.1.2 < n) ∧ (gridAt g e.1.1 e.1.2).fn = false ∧ maskFormula m e.1.1 e.1.2 = true ∧
      e.2 = flipModule (gridAt g e.1.1 e.1.2).st := by
  obtain ⟨⟨r, c⟩, x⟩ := e
  simp only [maskFlips, List.mem_filterMap, Option.ite_none_right_eq_some, Bool.and_eq_true, Bool.not_eq_true',
    Option.some.injEq, Prod.mk.injEq]
  constructor
  · rintro ⟨_, hin, ⟨hfn, hm⟩, rfl, rfl⟩
    exact ⟨(mem_allCells n r c).1 hin, hfn, hm, rfl⟩
  · rintro ⟨hin, hfn, hm, rfl⟩
    exact ⟨(r, c), (mem_allCells n r c).2 hin, ⟨hfn, hm⟩, rfl, rfl⟩

theorem flipModule_coloured (x : ModuleState) : Coloured (flipModule x) := coloured_ite (.inr rfl) (.inl rfl)

theorem maskFlips_within (m n : Nat) (g : Grid) : Within n (maskFlips m n g) := fun _ he => (mem_maskFlips.1 he).1

theorem maskFlips_coloured {m n : Nat} {g : Grid} {e : Pos × ModuleState} (he : e ∈ maskFlips m n g) :
    Coloured e.2 := by
  obtain ⟨_, _, _, hv⟩ := mem_maskFlips.1 he
  exact hv ▸ flipModule_coloured _

theorem dataModule_coloured (s : State) (k : Nat) : Coloured (dataModule s k) :=
  coloured_ite (moduleOfBit_coloured _) (.inr rfl)

theorem dataCells_mem {s : State} {e : Pos × ModuleState} (he : e ∈ dataCells s) :
    e.1 ∈ path s.size.toNat s.grid ∧ Coloured e.2 := by
  obtain ⟨x, hx, rfl⟩ := List.mem_map.1 he
  obtain ⟨p, k⟩ := x
  exact ⟨List.mem_of_mem_take (List.fst_mem_of_mem_zipIdx hx), dataModule_coloured s _⟩

end Sys2Proof.Machine
end

section
/-! `PATH` (42_matrix.md R154): the zigzag visits every cell outside the timing column once, so `PATH` lists every data
cell once. -/

namespace Sys2Proof.Machine

/-! ## The strips -/

theorem stripsFrom_succ (b right : Nat) : stripsFrom (b + 1) right =
    if 1 ≤ right then (if right = 6 then 5 else right) :: stripsFrom b ((if right = 6 then 5 else right) - 2)
    else [] := rfl

theorem mem_stripsFrom_le {b right x : Nat} (hx : x ∈ stripsFrom b right) : 1 ≤ x ∧ x ≤ right := by
  induction b generalizing right with
  | zero => exact absurd hx List.not_mem_nil
  | succ b ih =>
    rw [stripsFrom_succ, List.mem_ite_nil_right, List.mem_cons] at hx
    obtain ⟨hr, rfl | hx⟩ := hx
    · split <;> omega
    · have := ih hx
      split at this <;> omega

/-- Each strip lies at least two columns left of the strips before it. -/
theorem stripsFrom_pairwise (b right : Nat) : (stripsFrom b right).Pairwise fun x y => y + 2 ≤ x := by
  induction b generalizing right with
  | zero => exact .nil
  | succ b ih =>
    rw [stripsFrom_succ]
    split
    · refine .cons (fun y hy => ?_) (ih _)
      have := mem_stripsFrom_le hy
      omega
    · exact .nil

/-- The strips from an even column right of the timing column, or an odd one left of it, cover every column but the
timing column. -/
theorem stripsFrom_covers {b right c : Nat} (hb : right ≤ b) (hparity : right % 2 = 0 ↔ 6 ≤ right) (hc : c ≤ right)
    (h6 : c ≠ 6) : ∃ x ∈ stripsFrom b right, c = x ∨ c + 1 = x := by
  induction b generalizing right with
  | zero => omega
  | succ b ih =>
    rw [stripsFrom_succ, if_pos (by omega)]
    generalize hx : (if right = 6 then 5 else right) = x
    have hx' : (right = 6 ∧ x = 5) ∨ (right ≠ 6 ∧ x = right) := by
      rw [← hx]
      split <;> omega
    by_cases hhere : c = x ∨ c + 1 = x
    · exact ⟨x, List.mem_cons_self, hhere⟩
    · obtain ⟨y, hy, hcy⟩ := @ih (x - 2) (by omega) (by omega) (by omega)
      exact ⟨y, List.mem_cons_of_mem _ hy, hcy⟩

/-! ## The zigzag -/

theorem mem_stripCells {n x k : Nat} {p : Pos} :
    p ∈ stripCells n x k ↔ p.1 < n ∧ (p.2 = x ∨ p.2 = x - 1) := by
  obtain ⟨r, c⟩ := p
  simp only [stripCells, List.mem_flatMap, List.mem_range, List.mem_cons, List.not_mem_nil, or_false, Prod.mk.injEq,
    ← and_or_left]
  constructor
  · rintro ⟨t, ht, rfl, hc⟩
    exact ⟨by split <;> omega, hc⟩
  · rintro ⟨hr, hc⟩
    refine ⟨if k % 2 = 0 then n - 1 - r else r, ?_, ?_, hc⟩
    · split <;> omega
    · split <;> omega

/-- A strip visits no cell twice. -/
theorem stripCells_nodup {n x k : Nat} (hx : 1 ≤ x) : (stripCells n x k).Nodup := by
  refine List.nodup_flatMap.2 ⟨fun t _ => ?_, List.pairwise_lt_range.imp_of_mem fun {t u} ht hu hlt => ?_⟩
  · simp only [List.nodup_cons, List.mem_cons, Prod.mk.injEq, List.not_mem_nil, or_false, not_false_eq_true,
      List.nodup_nil, and_true]
    omega
  · have ht := List.mem_range.1 ht
    have hu := List.mem_range.1 hu
    intro p hp hq
    simp only [List.mem_cons, List.not_mem_nil, or_false, Prod.ext_iff] at hp hq
    by_cases hk : k % 2 = 0
    · simp only [hk, if_true] at hp hq
      omega
    · simp only [hk, if_false] at hp hq
      omega

theorem mem_zigzag {n : Nat} {p : Pos} : p ∈ zigzag n ↔ p.1 < n ∧ ∃ x ∈ strips n, p.2 = x ∨ p.2 = x - 1 := by
  simp only [zigzag, List.mem_flatMap, mem_stripCells]
  constructor
  · rintro ⟨e, he, hr, hc⟩
    exact ⟨hr, e.1, List.fst_mem_of_mem_zipIdx he, hc⟩
  · rintro ⟨hr, x, hx, hc⟩
    rw [← List.zipIdx_map_fst 0 (strips n)] at hx
    obtain ⟨e, he, rfl⟩ := List.mem_map.1 hx
    exact ⟨e, he, hr, hc⟩

/-- The zigzag stays inside the grid. -/
theorem zigzag_within {n : Nat} {p : Pos} (hp : p ∈ zigzag n) : p.1 < n ∧ p.2 < n := by
  obtain ⟨hr, x, hx, hc⟩ := mem_zigzag.1 hp
  have := mem_stripsFrom_le hx
  omega

/-- The zigzag visits no cell twice. -/
theorem zigzag_nodup (n : Nat) : (zigzag n).Nodup := by
  have hpair : (strips n).zipIdx.Pairwise fun e f => f.1 + 2 ≤ e.1 := by
    rw [← List.pairwise_map (f := Prod.fst) (R := fun x y => y + 2 ≤ x), List.zipIdx_map_fst]
    exact stripsFrom_pairwise _ _
  refine List.nodup_flatMap.2 ⟨fun e he => ?_, hpair.imp_of_mem fun {e f} he hf hlt => ?_⟩
  · exact stripCells_nodup (mem_stripsFrom_le (List.fst_mem_of_mem_zipIdx he)).1
  · have := mem_stripsFrom_le (List.fst_mem_of_mem_zipIdx hf)
    intro p hp hq
    have hp := mem_stripCells.1 hp
    have hq := mem_stripCells.1 hq
    omega

/-- The zigzag of a symbol's side visits every cell outside the timing column. -/
theorem mem_zigzag_of_ne {n r c : Nat} (hn : 7 ≤ n) (hodd : n % 2 = 1) (hr : r < n) (hc : c < n) (h6 : c ≠ 6) :
    (r, c) ∈ zigzag n := by
  obtain ⟨x, hx, hcx⟩ := stripsFrom_covers (b := n) (right := n - 1) (c := c) (by omega) (by omega) (by omega) h6
  exact mem_zigzag.2 ⟨hr, x, hx, by omega⟩

/-! ## `PATH` -/

theorem mem_path {n : Nat} {g : Grid} {p : Pos} : p ∈ path n g ↔ p ∈ zigzag n ∧ (gridAt g p.1 p.2).fn = false := by
  simp only [path, List.mem_filter, Bool.not_eq_true']

theorem path_nodup (n : Nat) (g : Grid) : (path n g).Nodup := (zigzag_nodup n).filter _

/-- `PATH` is no longer than the number of data cells, since it lists data cells only and none of them twice. -/
theorem path_length_le (n : Nat) (g : Grid) : (path n g).length ≤ countData n g := by
  rw [countData, List.countP_eq_length_filter]
  refine (List.subperm_of_subset (path_nodup n g) fun p hp => ?_).length_le
  obtain ⟨hz, hfn⟩ := mem_path.1 hp
  exact List.mem_filter.2 ⟨(mem_allCells n p.1 p.2).2 (zigzag_within hz), by simp [hfn]⟩

theorem dataCells_within (s : State) : Within s.size.toNat (dataCells s) := fun _ he =>
  zigzag_within (mem_path.1 (dataCells_mem he).1).1

/-- Where `DCAP` counts the data cells, `MXDATA` writes every cell of `PATH`. -/
theorem exists_mem_dataCells {s : State} (hd : s.dcap.toNat = countData s.size.toNat s.grid) {p : Pos}
    (hp : p ∈ path s.size.toNat s.grid) : ∃ x, (p, x) ∈ dataCells s := by
  have htake : (path s.size.toNat s.grid).take s.dcap.toNat = path s.size.toNat s.grid :=
    List.take_of_length_le (hd ▸ path_length_le _ _)
  rw [← List.zipIdx_map_fst 0 (path s.size.toNat s.grid), ← htake] at hp
  obtain ⟨e, he, rfl⟩ := List.mem_map.1 hp
  exact ⟨dataModule s e.2, List.mem_map.2 ⟨e, he, rfl⟩⟩

end Sys2Proof.Machine
end

section
/-! The invariant of the registers and the arrays (`State.Inv`) is kept by reset, by faults and by the effect of every
command, so by every step. -/

namespace Sys2Proof.Machine

/-! ## The grid as a memory: canonical and inside its index ranges (20_memory.md R60) -/

/-- The grid is canonical and lists no cell outside the greatest side. -/
def GridOk (g : Grid) : Prop := Memory.wf unwrittenCell g = true ∧ ∀ e ∈ g, e.1 / 256 < 177 ∧ e.1 % 256 < 177

theorem GridOk.setCell {g : Grid} (h : GridOk g) {r c : Nat} (hr : r < 177) (hc : c < 177) (v : GridCell) :
    GridOk (setCell g r c v) := by
  refine ⟨setCell_wf h.1 r c v, fun e he => ?_⟩
  rcases Memory.mem_write _ _ _ _ _ he with rfl | he
  · simp only [cellAddr]
    omega
  · exact h.2 e he

theorem GridOk.setfAll {g : Grid} (h : GridOk g) {cells : List (Pos × ModuleState)} (hin : Within 177 cells) :
    GridOk (setfAll g cells) :=
  List.foldlRecOn cells _ h fun _ hg e he => hg.setCell (hin e he).1 (hin e he).2 _

theorem GridOk.setStAll {g : Grid} (h : GridOk g) {cells : List (Pos × ModuleState)} (hin : Within 177 cells) :
    GridOk (setStAll g cells) :=
  List.foldlRecOn cells _ h fun _ hg e he => hg.setCell (hin e he).1 (hin e he).2 _

theorem GridOk.allocGrid {s : State} (h : GridOk s.grid) (hn : s.size.toNat ≤ 177) : GridOk (allocGrid s).grid :=
  List.foldlRecOn _ _ h fun _ hg p hp => by
    obtain ⟨hr, hc⟩ := (mem_allCells _ p.1 p.2).1 hp
    exact hg.setCell (by omega) (by omega) _

/-! ## What the invariant says of a configured state -/

theorem State.Inv.gridOk {s : State} (h : s.Inv) : GridOk s.grid := ⟨h.grid_wf, h.grid_below⟩

theorem State.configured_iff {s : State} : s.configured = true ↔ s.version ≠ 0 ∧ s.eclv = true := by
  simp [State.configured]

/-- A set version gives the side of its symbol. -/
theorem State.Inv.side {s : State} (h : s.Inv) (hv : s.version ≠ 0) :
    s.version.toNat ≤ 40 ∧ 1 ≤ s.version.toNat ∧ s.size.toNat = 4 * s.version.toNat + 17 := by
  have hpos : s.version.toNat ≠ 0 := fun h0 => hv (BitVec.eq_of_toNat_eq h0)
  exact ⟨h.version_le, by omega, by rw [h.size_eq, if_neg hv]⟩

theorem State.Inv.size_le {s : State} (h : s.Inv) : s.size.toNat ≤ 177 := by
  have hle := h.version_le
  rw [h.size_eq]
  split <;> omega

theorem Phase.ne_error_of_code_le {p : Phase} (h : p.code ≤ 8) : p ≠ .error := by
  rintro rfl
  exact absurd h (by decide)

theorem State.Inv.err_none {s : State} (h : s.Inv) (hp : s.phase.code ≤ 8) : s.err = none :=
  h.err_iff.2 (Phase.ne_error_of_code_le hp)

/-! ## Reset, faults and the port -/

theorem State.Inv.port {s : State} (h : s.Inv) (q : List HostAction) (r : List Word) :
    { s with pending := q, responses := r }.Inv := { h with }

theorem State.Inv.resetRegisters {s : State} (h : s.Inv) : s.resetRegisters.Inv where
  err_iff := by simp
  err_raised := by simp
  ephase_ne := by simp
  version_le := by simp
  size_eq := by simp
  configured := by simp [Phase.code]
  nsym_le := by simp
  block_le := by simp
  gen_eq := by simp
  rem_zero := by simp
  cwlen_le := by simp
  cwbuf_wf := h.cwbuf_wf
  cwbuf_below := h.cwbuf_below
  grid_wf := h.grid_wf
  grid_below := h.grid_below
  mask_zero := by simp
  penv_zero := by simp
  pen_eq := by simp
  dcap_eq := by simp [Phase.code]

theorem State.Inv.faulted {s : State} (h : s.Inv) (hp : s.phase ≠ .error) {e : ErrorName}
    (he : e ≠ .unencodableInput ∧ e ≠ .dataTooLarge) (w : Word) : (s.faulted e w).Inv :=
  { h with
    err_iff := by simp
    err_raised := by simpa using he
    ephase_ne := hp
    configured := by simp [Phase.code]
    mask_zero := fun hm => by
      rcases hm with hm | ⟨_, hm⟩
      · exact absurd hm (by simp [Phase.code])
      · exact h.mask_zero (.inl hm)
    penv_zero := by simp [Phase.code]
    pen_eq := by simp
    dcap_eq := by simp [Phase.code] }

/-- A read of an array of bytes that is written entry by entry. -/
theorem ofFn_getD {n : Nat} (f : Fin n → Byte) (k : Nat) :
    (Vector.ofFn f)[k]?.getD 0 = if h : k < n then f ⟨k, h⟩ else 0 := by
  split
  · next h => simp [h]
  · next h => simp [h]

/-! ## The configuration, the encoder and the codeword buffer -/

theorem State.Inv.setVersion {s : State} (h : s.Inv) (hp : s.phase = .idle) {a : Nat} (ha : 1 ≤ a) (ha' : a ≤ 40) :
    { s with version := BitVec.ofNat 6 a, size := BitVec.ofNat 8 (4 * a + 17) }.Inv := by
  have hv : (BitVec.ofNat 6 a).toNat = a := by
    rw [BitVec.toNat_ofNat]
    omega
  have hn : (BitVec.ofNat 8 (4 * a + 17)).toNat = 4 * a + 17 := by
    rw [BitVec.toNat_ofNat]
    omega
  have hv0 : BitVec.ofNat 6 a ≠ 0 := fun h0 => by
    rw [h0] at hv
    simp at hv
    omega
  exact { h with
    version_le := hv.trans_le ha'
    size_eq := by simp only [hn, hv, if_neg hv0]
    configured := by simp [hp, Phase.code]
    pen_eq := by simp [hp]
    dcap_eq := by simp [hp, Phase.code] }

theorem State.Inv.setLevel {s : State} (h : s.Inv) (hp : s.phase = .idle) (e : Level) :
    { s with ecl := e, eclv := true }.Inv :=
  { h with configured := by simp [hp, Phase.code] }

theorem State.Inv.startBlock {s : State} (h : s.Inv) {a : Nat} (ha : 1 ≤ a) (ha' : a ≤ 30) :
    (startBlock a s).Inv := by
  have hn : (BitVec.ofNat 5 a).toNat = a := by
    rw [BitVec.toNat_ofNat]
    omega
  exact { h with
    nsym_le := hn.trans_le ha'
    block_le := by
      simp only [Machine.startBlock, hn]
      simp
      omega
    gen_eq := fun _ k => by
      simp only [State.genAt, Machine.startBlock, hn, ofFn_getD]
      split
      · rfl
      · rw [if_neg (by omega)]
    rem_zero := fun _ k _ => by
      simp only [State.remAt, Machine.startBlock, Vector.getElem?_replicate]
      split
      · rfl
      · rfl }

theorem State.Inv.feedBlock {s : State} (h : s.Inv) (a : Byte) (hd : s.dlen.toNat + 1 + s.nsym.toNat ≤ 255) :
    (feedBlock a s).Inv := by
  have hl : (BitVec.ofNat 8 (s.dlen.toNat + 1)).toNat = s.dlen.toNat + 1 := by
    rw [BitVec.toNat_ofNat]
    omega
  exact { h with
    block_le := by simpa only [Machine.feedBlock, hl] using hd
    rem_zero := fun hn k hk => by
      have hk : s.nsym.toNat ≤ k := hk
      have hshift : remShifted s.nsym.toNat s.remAt k = s.remAt k := by
        rw [remShifted, if_neg (by omega), if_neg (by omega)]
      simp only [State.remAt, Machine.feedBlock, remAfter, ofFn_getD, if_neg (not_lt.2 hk)]
      split
      · exact hshift.trans (h.rem_zero hn k hk)
      · rfl }

theorem State.Inv.pushCodeword {s : State} (h : s.Inv) (a : Byte) (hl : s.cwlen.toNat ≠ 3706) :
    (pushCodeword a s).Inv := by
  have hlt : s.cwlen.toNat < 3706 := lt_of_le_of_ne h.cwlen_le hl
  exact { h with
    cwlen_le := by
      simp only [Machine.pushCodeword, BitVec.toNat_ofNat]
      omega
    cwbuf_wf := Memory.write_wf _ _ _ _ h.cwbuf_wf
    cwbuf_below := Memory.write_below _ _ _ _ _ hlt h.cwbuf_below }

/-! ## The matrix builder -/

/-- A step of the matrix builder: phase, grid and `DCAP` change, no later than to phase `PLACED`. -/
theorem State.Inv.buildStep {s : State} (h : s.Inv) (hp : s.phase.code ≤ 5) (hc : s.version ≠ 0 ∧ s.eclv = true)
    {p : Phase} {g : Grid} {d : BitVec 15} (hp' : p.code ≤ 6) (hg : GridOk g)
    (hd : 5 ≤ p.code → d.toNat = countData s.size.toNat g) :
    { s with phase := p, grid := g, dcap := d }.Inv :=
  { h with
    err_iff := iff_of_true (h.err_none (by omega)) (Phase.ne_error_of_code_le (hp'.trans (by decide)))
    configured := fun _ _ => hc
    grid_wf := hg.1
    grid_below := hg.2
    mask_zero := fun _ => h.mask_zero (.inl (by omega))
    penv_zero := fun _ => h.penv_zero hp
    pen_eq := fun _ m hm => by simp [h.penv_zero hp] at hm
    dcap_eq := fun h5 _ => hd h5 }

theorem State.Inv.allocGrid {s : State} (h : s.Inv) (hp : s.phase = .idle) (hc : s.configured = true) :
    (allocGrid s).Inv :=
  h.buildStep (by simp [hp, Phase.code]) (State.configured_iff.1 hc) (by decide) (h.gridOk.allocGrid h.size_le)
    (by simp [Phase.code])

/-- From `ALLOC` to `RESERVED` a step that writes function cells inside the grid keeps the invariant. -/
theorem State.Inv.patternStep {s : State} (h : s.Inv) {p q : Phase} (hs : s.phase = p) (hp : 1 ≤ p.code ∧ p.code ≤ 5)
    (hq : q.code ≤ 6) {cells : List (Pos × ModuleState)} (hin : Within 177 cells) {d : BitVec 15}
    (hd : 5 ≤ q.code → d.toNat = countData s.size.toNat (setfAll s.grid cells)) :
    { s with phase := q, grid := setfAll s.grid cells, dcap := d }.Inv := by
  obtain ⟨hp1, hp5⟩ := hs ▸ hp
  exact h.buildStep hp5 (h.configured hp1 (by omega)) hq (h.gridOk.setfAll hin) hd

theorem State.Inv.placeFinders {s : State} (h : s.Inv) (hp : s.phase = .alloc) : (placeFinders s).Inv :=
  h.patternStep hp (by decide) (by decide) ((allFinderCells_within _).mono h.size_le) (by simp [Phase.code])

theorem State.Inv.placeTiming {s : State} (h : s.Inv) (hp : s.phase = .finders) : (placeTiming s).Inv :=
  h.patternStep hp (by decide) (by decide) ((timingCells_within _).mono h.size_le) (by simp [Phase.code])

theorem State.Inv.placeAlignment {s : State} (h : s.Inv) (hp : s.phase = .timing) : (placeAlignment s).Inv :=
  have hv := h.version_le
  h.patternStep hp (by decide) (by decide) ((alignCells_within hv).mono (by omega)) (by simp [Phase.code])

/-- From `ALLOC` to `FINAL` the side is that of a version. -/
theorem State.Inv.side_of_phase {s : State} (h : s.Inv) (h1 : 1 ≤ s.phase.code) (h8 : s.phase.code ≤ 8) :
    s.version.toNat ≤ 40 ∧ 1 ≤ s.version.toNat ∧ s.size.toNat = 4 * s.version.toNat + 17 :=
  h.side (h.configured h1 h8).1

theorem State.Inv.reserveAreas {s : State} (h : s.Inv) (hp : s.phase = .aligned) : (reserveAreas s).Inv := by
  obtain ⟨_, hv, hn⟩ := h.side_of_phase (by simp [hp, Phase.code]) (by simp [hp, Phase.code])
  exact h.patternStep hp (by decide) (by decide) ((reservedCells_within (by omega)).mono h.size_le)
    fun _ => countData_ofNat h.size_le _

theorem State.Inv.placeData {s : State} (h : s.Inv) (hp : s.phase = .reserved) : (placeData s).Inv :=
  h.buildStep (by simp [hp, Phase.code]) (h.configured (by simp [hp, Phase.code]) (by simp [hp, Phase.code]))
    (by decide) (h.gridOk.setStAll ((dataCells_within s).mono h.size_le)) fun _ =>
      (h.dcap_eq (by simp [hp, Phase.code]) (by simp [hp, Phase.code])).trans (countData_setStAll h.grid_wf _ _).symm

theorem State.Inv.buildPatterns {s : State} (h : s.Inv) (hp : s.phase = .idle) (hc : s.configured = true) :
    (buildPatterns s).Inv :=
  ((((h.allocGrid hp hc).placeFinders rfl).placeTiming rfl).placeAlignment rfl).reserveAreas rfl

/-! ## The mask scorer and selector -/

/-- A step after placement: the masks and the information write no `FN`. -/
theorem State.Inv.maskStep {s : State} (h : s.Inv) (hp : 6 ≤ s.phase.code ∧ s.phase.code ≤ 8) {p : Phase}
    (hp' : 7 ≤ p.code ∧ p.code ≤ 8) (m : BitVec 3) {cells : List (Pos × ModuleState)}
    (hin : Within s.size.toNat cells) : { s with mask := m, grid := setStAll s.grid cells, phase := p }.Inv := by
  obtain ⟨hp6, hp8⟩ := hp
  obtain ⟨hp7, hp8'⟩ := hp'
  have hg := h.gridOk.setStAll (hin.mono h.size_le)
  exact { h with
    err_iff := iff_of_true (h.err_none hp8) (Phase.ne_error_of_code_le hp8')
    configured := fun _ _ => h.configured (by omega) hp8
    grid_wf := hg.1
    grid_below := hg.2
    mask_zero := fun hm => by
      rcases hm with hm | ⟨hm, _⟩
      · exact absurd hm (by simp only; omega)
      · exact absurd hm (Phase.ne_error_of_code_le hp8')
    penv_zero := fun hm => absurd hm (by simp only; omega)
    pen_eq := fun hm => by
      simp only at hm
      rw [hm] at hp7
      exact absurd hp7 (by decide)
    dcap_eq := fun _ _ => (h.dcap_eq (by omega) hp8).trans (countData_setStAll h.grid_wf _ _).symm }

theorem State.Inv.chooseMask {s : State} (h : s.Inv) (hp : s.phase = .placed) (m : Nat) : (chooseMask m s).Inv :=
  h.maskStep (by simp [hp, Phase.code]) (by decide) _ (maskFlips_within _ _ _)

theorem State.Inv.writeInformation {s : State} (h : s.Inv) (hp : s.phase = .masked) : (writeInformation s).Inv := by
  obtain ⟨_, hv, hn⟩ := h.side_of_phase (by simp [hp, Phase.code]) (by simp [hp, Phase.code])
  exact h.maskStep (by simp [hp, Phase.code]) (by decide) s.mask
    fun e he => informationPositions_within (by omega) (informationCells_mem he).1

/-- Scoring changes the penalty registers only: each penalty marked after it must be that of the grid. -/
theorem State.Inv.penalties {s : State} (h : s.Inv) (hp : s.phase = .placed) (m : Nat) (x : Score)
    (pen : Vector Value 8) (penv : BitVec 8)
    (hpen : ∀ k : Fin 8, penv.getLsbD k.val = true → pen[k] = valueOfNat (maskScore s k.val).total) :
    { writeBreakdown m x s with pen := pen, penv := penv }.Inv :=
  { h with
    penv_zero := fun hm => absurd hm (by simp [hp, Phase.code])
    pen_eq := fun _ => hpen }

theorem State.Inv.markPenalty {s : State} (h : s.Inv) (hp : s.phase = .placed) {a : Nat} (ha : a ≤ 7) :
    (markPenalty a s).Inv := by
  refine h.penalties hp _ _ _ _ fun k hk => ?_
  by_cases hka : a = k.val
  · subst hka
    simp
  · have hbit : s.penv.getLsbD k.val = true ∨ a ≤ k.val ∧ k.val - a = 0 := by simpa [penvSet] using hk
    simpa [Vector.getElem_setIfInBounds, hka] using h.pen_eq hp k (hbit.resolve_right (by omega))

theorem State.Inv.markAllPenalties {s : State} (h : s.Inv) (hp : s.phase = .placed) : (markAllPenalties s).Inv :=
  h.penalties hp _ _ _ _ fun k _ => by simp

/-! ## Every effect and every step -/

theorem State.Inv.effect {s t : State} {i : Instr} (h : s.Inv) (heff : Effect s i t) : t.Inv := by
  cases heff with
  | unchanged => exact h
  | reset => exact h.resetRegisters
  | setVersion hp ha ha' => exact h.setVersion hp ha ha'
  | setLevel hp e => exact h.setLevel hp e
  | startBlock ha ha' => exact h.startBlock ha ha'
  | feedBlock _ hd => exact h.feedBlock _ hd
  | alloc hp hc => exact h.allocGrid hp hc
  | finders hp => exact h.placeFinders hp
  | timing hp => exact h.placeTiming hp
  | alignment hp => exact h.placeAlignment hp
  | reserve hp => exact h.reserveAreas hp
  | data hp => exact h.placeData hp
  | build hp hc => exact (h.buildPatterns hp hc).placeData rfl
  | evaluate hp ha => exact h.markPenalty hp ha
  | select hp => exact (h.markAllPenalties hp).chooseMask hp _
  | force hp => exact h.chooseMask hp _
  | final hp => exact h.writeInformation hp
  | push hl => exact h.pushCodeword _ hl

/-- Settles O20: `step_keeps` with `State.Inv`. -/
theorem stepKeepsInvariant : Obligations.StepKeepsInvariant := fun _ _ hs h =>
  step_keeps (P := State.Inv) (fun _ q r hs => hs.port q r) (fun _ hs => hs.resetRegisters)
    (fun _ _ w hp he hs => hs.faulted hp he w) (fun _ _ _ heff hs => hs.effect heff) hs h

end Sys2Proof.Machine
end

section
/-! The invariant of the grid (`State.GridInv`) is kept by every step: patterns and masks write coloured modules, the
reserved areas are the information positions, `PATH` reaches every data cell, and `FINAL` writes every cell that is
still `Reserved`. -/

namespace Sys2Proof.Machine

/-! ## What a cell holds after a list of writes -/

/-- A cell after `setfAll`: unlisted and as before, or a function cell with a listed state. -/
theorem gridAt_setfAll_cases (g : Grid) (cells : List (Pos × ModuleState)) (r c : Nat) :
    ((∀ e ∈ cells, cellAddr e.1.1 e.1.2 ≠ cellAddr r c) ∧ gridAt (setfAll g cells) r c = gridAt g r c) ∨
    ∃ e ∈ cells, cellAddr e.1.1 e.1.2 = cellAddr r c ∧ gridAt (setfAll g cells) r c = ⟨e.2, true⟩ := by
  induction cells generalizing g with
  | nil => exact .inl ⟨fun _ he => absurd he List.not_mem_nil, rfl⟩
  | cons e cells ih =>
    rw [setfAll_cons]
    rcases ih (setf g e.1.1 e.1.2 e.2) with ⟨hnot, hsame⟩ | ⟨f, hf, haddr, hcell⟩
    · by_cases ha : cellAddr e.1.1 e.1.2 = cellAddr r c
      · refine .inr ⟨e, List.mem_cons_self, ha, hsame.trans ?_⟩
        rw [gridAt, ← ha]
        exact gridAt_setf_same g e.1.1 e.1.2 e.2
      · exact .inl ⟨List.forall_mem_cons.2 ⟨ha, hnot⟩, hsame.trans (gridAt_setf_other _ (Ne.symm ha))⟩
    · exact .inr ⟨f, List.mem_cons_of_mem _ hf, haddr, hcell⟩

/-- A cell after `setStAll`: unlisted and as before, or with a listed state and its old flag. -/
theorem gridAt_setStAll_cases {g : Grid} (hg : Memory.wf unwrittenCell g = true) (cells : List (Pos × ModuleState))
    (r c : Nat) :
    ((∀ e ∈ cells, cellAddr e.1.1 e.1.2 ≠ cellAddr r c) ∧ gridAt (setStAll g cells) r c = gridAt g r c) ∨
    ∃ e ∈ cells, cellAddr e.1.1 e.1.2 = cellAddr r c ∧
      gridAt (setStAll g cells) r c = ⟨e.2, (gridAt g r c).fn⟩ := by
  induction cells generalizing g with
  | nil => exact .inl ⟨fun _ he => absurd he List.not_mem_nil, rfl⟩
  | cons e cells ih =>
    rw [setStAll_cons]
    rcases ih (g := setSt g e.1.1 e.1.2 e.2) (setCell_wf hg _ _ _) with ⟨hnot, hsame⟩ | ⟨f, hf, haddr, hcell⟩
    · by_cases ha : cellAddr e.1.1 e.1.2 = cellAddr r c
      · refine .inr ⟨e, List.mem_cons_self, ha, hsame.trans ?_⟩
        rw [gridAt, gridAt, ← ha]
        exact gridAt_setCell_same hg _ _ _
      · exact .inl ⟨List.forall_mem_cons.2 ⟨ha, hnot⟩, hsame.trans (gridAt_setCell_other _ (Ne.symm ha))⟩
    · exact .inr ⟨f, List.mem_cons_of_mem _ hf, haddr, hcell.trans (by rw [fn_setSt hg])⟩

/-- A cell after patterns: as before, or a coloured function cell. -/
theorem gridAt_patterns {cells : List (Pos × ModuleState)} (hcol : ∀ e ∈ cells, Coloured e.2) (g : Grid) (r c : Nat) :
    gridAt (setfAll g cells) r c = gridAt g r c ∨ ∃ x, Coloured x ∧ gridAt (setfAll g cells) r c = ⟨x, true⟩ := by
  rcases gridAt_setfAll_cases g cells r c with ⟨_, hsame⟩ | ⟨e, he, _, hcell⟩
  · exact .inl hsame
  · exact .inr ⟨e.2, hcol e he, hcell⟩

/-- A listed cell is a function cell after `setfAll`. -/
theorem fn_setfAll_of_mem {cells : List (Pos × ModuleState)} {r c : Nat} {x : ModuleState} (h : ((r, c), x) ∈ cells)
    (g : Grid) : (gridAt (setfAll g cells) r c).fn = true := by
  rcases gridAt_setfAll_cases g cells r c with ⟨hnot, _⟩ | ⟨e, _, _, hcell⟩
  · exact absurd rfl (hnot _ h)
  · rw [hcell]

/-! ## States without a grid, and states with the same grid -/

/-- The invariant of the grid says nothing in phases `IDLE` and `ERROR`. -/
theorem gridInv_of_phase {s : State} (hp : s.phase = .idle ∨ s.phase = .error) : s.GridInv := by
  have none {n : Nat} (h1 : 1 ≤ s.phase.code) (h8 : s.phase.code ≤ n) (hn : n ≤ 8) : False := by
    rcases hp with hp | hp
    · rw [hp] at h1
      exact absurd h1 (by decide)
    · rw [hp] at h8
      exact absurd (h8.trans hn) (by decide)
  exact {
    cell_kind := fun h1 h8 => (none h1 h8 (by decide)).elim
    data_unset := fun h1 h8 => (none h1 h8 (by decide)).elim
    not_reserved := fun h1 h8 => (none h1 h8 (by decide)).elim
    column6_ends := fun h1 h8 => (none (by omega) h8 (by decide)).elim
    column6_timing := fun h1 h8 => (none (by omega) h8 (by decide)).elim
    reserved_where := fun h1 h8 => (none (by omega) h8 (by decide)).elim
    placed_set := fun h1 h8 => (none (by omega) h8 (by decide)).elim
    final_coloured := fun hf => by rcases hp with hp | hp <;> simp [hp] at hf }

/-! ## The patterns -/

theorem State.GridInv.allocGrid {s : State} (h : Memory.wf unwrittenCell s.grid = true) :
    (Machine.allocGrid s).GridInv := by
  have hcell (r c : Nat) (hr : r < s.size.toNat) (hc : c < s.size.toNat) :
      (Machine.allocGrid s).cell r c = ⟨.unset, false⟩ := by
    rw [allocGrid_cell h, if_pos ⟨(r, c), (mem_allCells _ r c).2 ⟨hr, hc⟩, rfl⟩]
  exact {
    cell_kind := fun _ _ r c hr hc => by simp [hcell r c hr hc]
    data_unset := fun _ _ r c hr hc _ => by simp [hcell r c hr hc]
    not_reserved := fun _ _ r c hr hc => by simp [hcell r c hr hc]
    column6_ends := fun h2 => absurd h2 (by simp [Phase.code])
    column6_timing := fun h3 => absurd h3 (by simp [Phase.code])
    reserved_where := fun h5 => absurd h5 (by simp [Phase.code])
    placed_set := fun h6 => absurd h6 (by simp [Phase.code])
    final_coloured := fun hf => absurd hf (by simp) }

/-- A step that writes coloured function cells before `MXRSV`. -/
theorem State.GridInv.patternStep {s : State} (h : s.GridInv) (hs : 1 ≤ s.phase.code ∧ s.phase.code ≤ 4) {q : Phase}
    (hq : q.code ≤ 4) {cells : List (Pos × ModuleState)} (hcol : ∀ e ∈ cells, Coloured e.2)
    (hends : 2 ≤ q.code → ∀ r, r < s.size.toNat → (r < 8 ∨ s.size.toNat ≤ r + 8) →
      (gridAt (setfAll s.grid cells) r 6).fn = true)
    (htiming : 3 ≤ q.code → ∀ r, r < s.size.toNat → (gridAt (setfAll s.grid cells) r 6).fn = true) :
    { s with phase := q, grid := setfAll s.grid cells }.GridInv := by
  obtain ⟨hs1, hs4⟩ := hs
  have hcell := gridAt_patterns hcol s.grid
  exact {
    cell_kind := fun _ _ r c hr hc => by
      rcases hcell r c with hsame | ⟨x, hx, hnew⟩
      · simpa only [State.cell, hsame] using h.cell_kind hs1 (by omega) r c hr hc
      · simp only [State.cell, hnew]
        exact ⟨fun _ => hx.ne_unset, fun hfn => absurd hfn (by decide)⟩
    data_unset := fun _ _ r c hr hc => by
      rcases hcell r c with hsame | ⟨x, _, hnew⟩
      · simpa only [State.cell, hsame] using h.data_unset hs1 (by omega) r c hr hc
      · simp only [State.cell, hnew]
        exact fun hfn => absurd hfn (by decide)
    not_reserved := fun _ _ r c hr hc => by
      rcases hcell r c with hsame | ⟨x, hx, hnew⟩
      · simpa only [State.cell, hsame] using h.not_reserved hs1 hs4 r c hr hc
      · simpa only [State.cell, hnew] using hx.ne_reserved
    column6_ends := fun h2 _ => hends h2
    column6_timing := fun h3 _ => htiming h3
    reserved_where := fun h5 => absurd h5 (by simp only; omega)
    placed_set := fun h6 => absurd h6 (by simp only; omega)
    final_coloured := fun hf => by
      simp only at hf
      rw [hf] at hq
      exact absurd hq (by decide) }

theorem State.GridInv.placeFinders {s : State} (h : s.GridInv) (hi : s.Inv) (hp : s.phase = .alloc) :
    (placeFinders s).GridInv := by
  obtain ⟨_, hv, hn⟩ := hi.side_of_phase (by simp [hp, Phase.code]) (by simp [hp, Phase.code])
  refine h.patternStep (by simp [hp, Phase.code]) (by decide) (allFinderCells_coloured _) (fun _ r hr hend => ?_)
    (by simp [Phase.code])
  obtain ⟨x, hx⟩ := allFinderCells_column6 (by omega) hr hend
  exact fn_setfAll_of_mem hx _

theorem State.GridInv.placeTiming {s : State} (h : s.GridInv) (hp : s.phase = .finders) :
    (placeTiming s).GridInv := by
  have hends (r : Nat) (hr : r < s.size.toNat) (hend : r < 8 ∨ s.size.toNat ≤ r + 8) :=
    fn_setfAll s.grid (timingCells s.size.toNat) r 6
      (h.column6_ends (by simp [hp, Phase.code]) (by simp [hp, Phase.code]) r hr hend)
  refine h.patternStep (by simp [hp, Phase.code]) (by decide) (fun _ => timingCells_coloured)
    (fun _ => hends) (fun _ r hr => ?_)
  by_cases hend : r < 8 ∨ s.size.toNat ≤ r + 8
  · exact hends r hr hend
  · exact fn_setfAll_of_mem (mem_timingCells.2 ⟨r, by omega, .inr rfl⟩) _

theorem State.GridInv.placeAlignment {s : State} (h : s.GridInv) (hp : s.phase = .timing) :
    (placeAlignment s).GridInv := by
  have hcolumn (r : Nat) (hr : r < s.size.toNat) := fn_setfAll s.grid (alignCells s.version.toNat) r 6
    (h.column6_timing (by simp [hp, Phase.code]) (by simp [hp, Phase.code]) r hr)
  exact h.patternStep (by simp [hp, Phase.code]) (by decide) (fun _ => alignCells_coloured)
    (fun _ r hr _ => hcolumn r hr) (fun _ => hcolumn)

/-- A cell after `MXRSV`: as before, a `Reserved` function cell at an information position, or the dark module. -/
theorem gridAt_reserved {v n : Nat} (hn : 21 ≤ n) (hn' : n ≤ 177) (g : Grid) {r c : Nat} (hc : c < n) :
    gridAt (setfAll g (reservedCells v n)) r c = gridAt g r c ∨
    ((r, c) ∈ informationPositions v n ∧ gridAt (setfAll g (reservedCells v n)) r c = ⟨.reserved, true⟩) ∨
    gridAt (setfAll g (reservedCells v n)) r c = ⟨.dark, true⟩ := by
  rcases gridAt_setfAll_cases g (reservedCells v n) r c with ⟨_, hsame⟩ | ⟨e, he, haddr, hcell⟩
  · exact .inl hsame
  · rcases mem_reservedCells.1 he with ⟨hp, hx⟩ | rfl
    · have hin := informationPositions_within hn hp
      have hpos : e.1 = (r, c) := Prod.ext_iff.2 ((cellAddr_inj (by omega) (by omega)).1 haddr)
      exact .inr (.inl ⟨hpos ▸ hp, hx ▸ hcell⟩)
    · exact .inr (.inr hcell)

/-- `MXRSV` for any grid whose cells are as `gridAt_reserved` says. -/
theorem State.GridInv.reserveStep {s : State} (h : s.GridInv) (hp : s.phase = .aligned) {g : Grid} (d : BitVec 15)
    (hcell : ∀ r c, c < s.size.toNat → gridAt g r c = gridAt s.grid r c ∨
      ((r, c) ∈ informationPositions s.version.toNat s.size.toNat ∧ gridAt g r c = ⟨.reserved, true⟩) ∨
      gridAt g r c = ⟨.dark, true⟩)
    (hcolumn : ∀ r, r < s.size.toNat → (gridAt g r 6).fn = true) :
    { s with phase := .reserved, grid := g, dcap := d }.GridInv := by
  have hp1 : 1 ≤ s.phase.code := by simp [hp, Phase.code]
  have hp4 : s.phase.code ≤ 4 := by simp [hp, Phase.code]
  exact {
    cell_kind := fun _ _ r c hr hc => by
      rcases hcell r c hc with hsame | ⟨_, hnew⟩ | hnew
      · simpa only [State.cell, hsame] using h.cell_kind hp1 (by omega) r c hr hc
      · simp [State.cell, hnew]
      · simp [State.cell, hnew]
    data_unset := fun _ _ r c hr hc => by
      rcases hcell r c hc with hsame | ⟨_, hnew⟩ | hnew
      · simpa only [State.cell, hsame] using h.data_unset hp1 (by omega) r c hr hc
      · simp [State.cell, hnew]
      · simp [State.cell, hnew]
    not_reserved := fun _ h4 => absurd h4 (by simp [Phase.code])
    column6_ends := fun _ _ r hr _ => hcolumn r hr
    column6_timing := fun _ _ => hcolumn
    reserved_where := fun _ _ r c hr hc hres => by
      rcases hcell r c hc with hsame | ⟨hpos, _⟩ | hnew
      · simp only [State.cell, hsame] at hres
        exact absurd hres (h.not_reserved hp1 hp4 r c hr hc)
      · exact hpos
      · simp [State.cell, hnew] at hres
    placed_set := fun h6 => absurd h6 (by simp [Phase.code])
    final_coloured := fun hf => absurd hf (by simp) }

theorem State.GridInv.reserveAreas {s : State} (h : s.GridInv) (hi : s.Inv) (hp : s.phase = .aligned) :
    (reserveAreas s).GridInv := by
  obtain ⟨_, hv, hn⟩ := hi.side_of_phase (by simp [hp, Phase.code]) (by simp [hp, Phase.code])
  exact h.reserveStep hp _ (fun r c hc => gridAt_reserved (by omega) hi.size_le s.grid hc) fun r hr =>
    fn_setfAll s.grid _ r 6 (h.column6_timing (by simp [hp, Phase.code]) (by simp [hp, Phase.code]) r hr)

/-! ## Placement, masks and information -/

/-- A step that writes coloured states and no flags from `RESERVED` on, after which no cell is `Unset`. -/
theorem State.GridInv.colourStep {s : State} (h : s.GridInv) (hi : s.Inv) (hs : 5 ≤ s.phase.code ∧ s.phase.code ≤ 7)
    {q : Phase} (hq : 6 ≤ q.code) {cells : List (Pos × ModuleState)} (hcol : ∀ e ∈ cells, Coloured e.2) (m : BitVec 3)
    (hset : ∀ r c, r < s.size.toNat → c < s.size.toNat → (gridAt s.grid r c).fn = false →
      (gridAt (setStAll s.grid cells) r c).st ≠ .unset)
    (hfinal : q = .final → ∀ r c, r < s.size.toNat → c < s.size.toNat →
      Coloured (gridAt (setStAll s.grid cells) r c).st) :
    { s with phase := q, grid := setStAll s.grid cells, mask := m }.GridInv := by
  obtain ⟨hs5, hs7⟩ := hs
  have hcell (r c : Nat) : gridAt (setStAll s.grid cells) r c = gridAt s.grid r c ∨
      ∃ x, Coloured x ∧ gridAt (setStAll s.grid cells) r c = ⟨x, (gridAt s.grid r c).fn⟩ := by
    rcases gridAt_setStAll_cases hi.grid_wf cells r c with ⟨_, hsame⟩ | ⟨e, he, _, hnew⟩
    · exact .inl hsame
    · exact .inr ⟨e.2, hcol e he, hnew⟩
  have hfn (r c : Nat) := fn_setStAll hi.grid_wf cells r c
  have hkind (r c : Nat) (hr : r < s.size.toNat) (hc : c < s.size.toNat) :
      ((gridAt (setStAll s.grid cells) r c).fn = true → (gridAt (setStAll s.grid cells) r c).st ≠ .unset) ∧
      ((gridAt (setStAll s.grid cells) r c).fn = false → (gridAt (setStAll s.grid cells) r c).st ≠ .reserved) := by
    rcases hcell r c with hsame | ⟨x, hx, hnew⟩
    · rw [hsame]
      exact h.cell_kind (by omega) (by omega) r c hr hc
    · simp only [hnew]
      exact ⟨fun _ => hx.ne_unset, fun _ => hx.ne_reserved⟩
  have hcolumn (r : Nat) (hr : r < s.size.toNat) : (gridAt (setStAll s.grid cells) r 6).fn = true :=
    (hfn r 6).trans (h.column6_timing (by omega) (by omega) r hr)
  exact {
    cell_kind := fun _ _ => hkind
    data_unset := fun _ h5 => absurd h5 (by simp only; omega)
    not_reserved := fun _ h4 => absurd h4 (by simp only; omega)
    column6_ends := fun _ _ r hr _ => hcolumn r hr
    column6_timing := fun _ _ => hcolumn
    reserved_where := fun _ _ r c hr hc hres => by
      rcases hcell r c with hsame | ⟨x, hx, hnew⟩
      · simp only [State.cell, hsame] at hres
        exact h.reserved_where hs5 hs7 r c hr hc hres
      · simp only [State.cell, hnew] at hres
        exact absurd hres hx.ne_reserved
    placed_set := fun _ _ r c hr hc => by
      cases hf : (gridAt (setStAll s.grid cells) r c).fn with
      | true => exact (hkind r c hr hc).1 hf
      | false => exact hset r c hr hc ((hfn r c).symm.trans hf)
    final_coloured := hfinal }

/-- `MXDATA` reaches every data cell: none lies in column 6, and `PATH` is written to its end. -/
theorem State.GridInv.exists_dataCell {s : State} (h : s.GridInv) (hi : s.Inv) (hp : s.phase = .reserved) {r c : Nat}
    (hr : r < s.size.toNat) (hc : c < s.size.toNat) (hfn : (gridAt s.grid r c).fn = false) :
    ∃ x, ((r, c), x) ∈ dataCells s := by
  have hp5 : 5 ≤ s.phase.code := by simp [hp, Phase.code]
  have hp8 : s.phase.code ≤ 8 := by simp [hp, Phase.code]
  obtain ⟨_, hv, hn⟩ := hi.side_of_phase (by omega) hp8
  have h6 : c ≠ 6 := by
    rintro rfl
    have hcolumn := h.column6_timing (by omega) hp8 r hr
    rw [State.cell, hfn] at hcolumn
    exact absurd hcolumn (by decide)
  exact exists_mem_dataCells (hi.dcap_eq hp5 hp8)
    (mem_path.2 ⟨mem_zigzag_of_ne (by omega) (by omega) hr hc h6, hfn⟩)

theorem State.GridInv.placeData {s : State} (h : s.GridInv) (hi : s.Inv) (hp : s.phase = .reserved) :
    (placeData s).GridInv := by
  refine h.colourStep hi (by simp [hp, Phase.code]) (by decide) (fun _ he => (dataCells_mem he).2) s.mask
    (fun r c hr hc hfn => ?_) (fun hf => absurd hf (by decide))
  obtain ⟨x, hx⟩ := h.exists_dataCell hi hp hr hc hfn
  rcases gridAt_setStAll_cases hi.grid_wf (dataCells s) r c with ⟨hnot, _⟩ | ⟨e, he, _, hnew⟩
  · exact absurd rfl (hnot _ hx)
  · rw [hnew]
    exact (dataCells_mem he).2.ne_unset

/-- Coloured writes leave no cell `Unset` where none was. -/
theorem ne_unset_setStAll {g : Grid} (hg : Memory.wf unwrittenCell g = true) {cells : List (Pos × ModuleState)}
    (hcol : ∀ e ∈ cells, Coloured e.2) {r c : Nat} (h : (gridAt g r c).st ≠ .unset) :
    (gridAt (setStAll g cells) r c).st ≠ .unset := by
  rcases gridAt_setStAll_cases hg cells r c with ⟨_, hsame⟩ | ⟨e, he, _, hnew⟩
  · rwa [hsame]
  · rw [hnew]
    exact (hcol e he).ne_unset

theorem State.GridInv.chooseMask {s : State} (h : s.GridInv) (hi : s.Inv) (hp : s.phase = .placed) (m : Nat) :
    (chooseMask m s).GridInv :=
  have hcol : ∀ e ∈ maskFlips m s.size.toNat s.grid, Coloured e.2 := fun _ => maskFlips_coloured
  h.colourStep hi (by simp [hp, Phase.code]) (by decide) hcol _
    (fun r c hr hc _ => ne_unset_setStAll hi.grid_wf hcol
      (h.placed_set (by simp [hp, Phase.code]) (by simp [hp, Phase.code]) r c hr hc))
    (fun hf => absurd hf (by decide))

/-- A module is coloured, `Unset` or `Reserved`. -/
theorem coloured_of_ne {x : ModuleState} (hu : x ≠ .unset) (hr : x ≠ .reserved) : Coloured x := by
  cases x with
  | light => exact .inr rfl
  | dark => exact .inl rfl
  | unset => exact absurd rfl hu
  | reserved => exact absurd rfl hr

theorem State.GridInv.writeInformation {s : State} (h : s.GridInv) (hi : s.Inv) (hp : s.phase = .masked) :
    (writeInformation s).GridInv := by
  have hp6 : 6 ≤ s.phase.code := by simp [hp, Phase.code]
  have hp7 : s.phase.code ≤ 7 := by simp [hp, Phase.code]
  have hcol : ∀ e ∈ informationCells s, Coloured e.2 := fun _ he => (informationCells_mem he).2
  have hunset (r c : Nat) (hr : r < s.size.toNat) (hc : c < s.size.toNat) := h.placed_set hp6 (by omega) r c hr hc
  refine h.colourStep hi ⟨by omega, hp7⟩ (by decide) hcol s.mask
    (fun r c hr hc _ => ne_unset_setStAll hi.grid_wf hcol (hunset r c hr hc)) (fun _ r c hr hc => ?_)
  rcases gridAt_setStAll_cases hi.grid_wf (informationCells s) r c with ⟨hnot, hsame⟩ | ⟨e, he, _, hnew⟩
  · rw [hsame]
    refine coloured_of_ne (hunset r c hr hc) fun hres => ?_
    obtain ⟨x, hx⟩ := exists_mem_informationCells (h.reserved_where (by omega) hp7 r c hr hc hres)
    exact hnot _ hx rfl
  · rw [hnew]
    exact hcol e he

/-! ## Every effect and every step -/

theorem State.GridInv.buildPatterns {s : State} (hi : s.Inv) (hp : s.phase = .idle) (hc : s.configured = true) :
    (Machine.buildPatterns s).GridInv :=
  have hialloc := hi.allocGrid hp hc
  have hialign := ((hialloc.placeFinders rfl).placeTiming rfl).placeAlignment rfl
  have halloc := State.GridInv.allocGrid hi.grid_wf
  (((halloc.placeFinders hialloc rfl).placeTiming rfl).placeAlignment rfl).reserveAreas hialign rfl

theorem State.GridInv.effect {s t : State} {i : Instr} (h : s.GridInv) (hi : s.Inv) (heff : Effect s i t) :
    t.GridInv := by
  cases heff with
  | unchanged => exact h
  | reset => exact gridInv_of_phase (.inl rfl)
  | setVersion hp => exact gridInv_of_phase (.inl hp)
  | setLevel | startBlock | feedBlock | evaluate | push => exact { h with }
  | alloc => exact .allocGrid hi.grid_wf
  | finders hp => exact h.placeFinders hi hp
  | timing hp => exact h.placeTiming hp
  | alignment hp => exact h.placeAlignment hp
  | reserve hp => exact h.reserveAreas hi hp
  | data hp => exact h.placeData hi hp
  | build hp hc => exact (State.GridInv.buildPatterns hi hp hc).placeData (hi.buildPatterns hp hc) rfl
  | select hp => exact State.GridInv.chooseMask (s := markAllPenalties s) { h with } (hi.markAllPenalties hp) hp _
  | force hp => exact h.chooseMask hi hp _
  | final hp => exact h.writeInformation hi hp

/-- Settles O21: `step_keeps` with both invariants, since the effects on the grid rest on the registers. -/
theorem stepKeepsGridInvariant : Obligations.StepKeepsGridInvariant := by
  intro s t hi hg h
  have hboth : t.Inv ∧ t.GridInv := step_keeps (P := fun s => s.Inv ∧ s.GridInv)
    (fun _ q r ⟨hi, hg⟩ => ⟨hi.port q r, { hg with }⟩)
    (fun _ ⟨hi, _⟩ => ⟨hi.resetRegisters, gridInv_of_phase (.inl rfl)⟩)
    (fun _ _ w hp he ⟨hi, _⟩ => ⟨hi.faulted hp he w, gridInv_of_phase (.inr rfl)⟩)
    (fun _ _ _ heff ⟨hi, hg⟩ => ⟨hi.effect heff, hg.effect hi heff⟩) ⟨hi, hg⟩ h
  exact hboth.2

end Sys2Proof.Machine
end

section
/-! Reads change no state when they succeed (20_memory.md R66). -/

namespace Sys2Proof.Machine

/-- The effect of a reading command is none: every other effect belongs to a command that is no read. -/
theorem Effect.eq_of_read {s t : State} {i : Instr} (hi : isReadCommand i = true) (h : Effect s i t) : t = s := by
  cases h with
  | unchanged => rfl
  | reset | setVersion | setLevel | startBlock | feedBlock | alloc | finders | timing | alignment | reserve | data
  | build | evaluate | select | force | final | push => cases hi

/-- Settles O18: a refusal changes nothing but the responses anyway, a fault responds with `E = 1`, and the effect of
a read is none. -/
theorem readsHaveNoSideEffects : Obligations.ReadsHaveNoSideEffects := by
  intro i s t w hread h hresp hmsb
  have hends := exec_ends i s
  rw [h] at hends
  cases hends with
  | refused =>
    cases hresp
    rfl
  | faulted _ e =>
    cases hresp
    exact absurd ((faultResponse_msb (some e)).symm.trans hmsb) (by decide)
  | answered heff =>
    obtain rfl := heff.eq_of_read hread
    cases hresp
    rfl

end Sys2Proof.Machine
end

section
/-! The decoder against the encoder and against the opcode table (30_encoding.md R80 to R85). A command fixes a row of
the table: an opcode, and how many low bits hold operands. A word of that row decodes to the row's command with its
operands read from the word, so the two round trips and the agreement with the table are facts about rows. -/

namespace Sys2Proof

open Machine

/-! ## The row of a command -/

/-- How many low bits of a command's word hold its operands, by its format `Z`, `BB` or `H`, `B` (R80, R81). -/
def Instr.operandBits : Instr → Nat
  | .nop | .sreset | .mxinit | .mxfind | .mxtime | .mxalign | .mxrsv | .mxdata | .mxbuild | .msksel | .final => 0
  | .gfadd _ _ | .gfmul _ _ | .gfdiv _ _ | .gridrd _ _ | .cwrd _ => 16
  | _ => 8

theorem Instr.operandBits_le (i : Instr) : i.operandBits ≤ 24 := by
  unfold Instr.operandBits
  split <;> decide

/-- The row of the opcode table that spells a command (R85). -/
def Instr.row (i : Instr) : OpcodeRow :=
  ⟨i.mnemonic, BitVec.allOnes 32 <<< i.operandBits, i.opcode ++ 0#24⟩

/-- The command of the row of `i` whose operands are those of the word `w` (R81). -/
def Instr.withOperands (w : Word) : Instr → Instr
  | .setver _ => .setver (lowField w).toNat
  | .setecl _ => .setecl (lowField w).toNat
  | .rdreg _ => .rdreg (lowField w).toNat
  | .gfadd _ _ => .gfadd (midField w) (lowField w)
  | .gfmul _ _ => .gfmul (midField w) (lowField w)
  | .gfdiv _ _ => .gfdiv (midField w) (lowField w)
  | .gfexp _ => .gfexp (lowField w).toNat
  | .gflog _ => .gflog (lowField w)
  | .rsinit _ => .rsinit (lowField w).toNat
  | .rsdata _ => .rsdata (lowField w)
  | .rsrd _ => .rsrd (lowField w).toNat
  | .rsgen _ => .rsgen (lowField w).toNat
  | .mskeval _ => .mskeval (lowField w).toNat
  | .mskforce _ => .mskforce (lowField w).toNat
  | .cwpush _ => .cwpush (lowField w)
  | .cwrd _ => .cwrd (halfField w).toNat
  | .gridrd _ _ => .gridrd (midField w).toNat (lowField w).toNat
  | i => i

theorem Instr.row_withOperands (w : Word) (i : Instr) : (i.withOperands w).row = i.row := by
  cases i <;> rfl

/-- One command of each row, in the table's order. -/
def Instr.samples : List Instr :=
  [.nop, .sreset, .setver 0, .setecl 0, .rdreg 0, .gfadd 0 0, .gfmul 0 0, .gfdiv 0 0, .gfexp 0, .gflog 0, .rsinit 0,
   .rsdata 0, .rsrd 0, .rsgen 0, .mxinit, .mxfind, .mxtime, .mxalign, .mxrsv, .mxdata, .mxbuild, .mskeval 0, .msksel,
   .mskforce 0, .final, .cwpush 0, .cwrd 0, .gridrd 0 0]

theorem opcodeTable_eq_map_row : opcodeTable = Instr.samples.map Instr.row := rfl

theorem Instr.withOperands_zero_mem (i : Instr) : i.withOperands 0 ∈ samples := by
  cases i <;> simp [withOperands, samples, lowField, midField, halfField]

theorem Instr.row_mem (i : Instr) : i.row ∈ opcodeTable := by
  rw [opcodeTable_eq_map_row]
  exact List.mem_map.2 ⟨_, i.withOperands_zero_mem, i.row_withOperands 0⟩

theorem exists_row_eq {row : OpcodeRow} (h : row ∈ opcodeTable) : ∃ i : Instr, i.row = row := by
  rw [opcodeTable_eq_map_row] at h
  obtain ⟨i, _, hi⟩ := List.mem_map.1 h
  exact ⟨i, hi⟩

/-! ## The fields of a word of a row -/

/-- A mask that keeps the bits from `k` up clears the bits below. -/
theorem getLsbD_and_mask (w : Word) (k j : Nat) :
    (w &&& (BitVec.allOnes 32 <<< k)).getLsbD j = (decide (k ≤ j) && w.getLsbD j) := by
  by_cases hj : j < 32
  · have hjk : j - k < 32 := by omega
    simp only [BitVec.getLsbD_and, BitVec.getLsbD_shiftLeft, BitVec.getLsbD_allOnes, hj, hjk, decide_true,
      Bool.true_and, ← decide_not, Nat.not_lt, Bool.and_comm]
  · simp only [BitVec.getLsbD_of_ge _ j (Nat.le_of_not_lt hj), Bool.and_false]

/-- The pattern of a row holds the opcode above zeros. -/
theorem getLsbD_pattern (op : Byte) (j : Nat) :
    BitVec.getLsbD (w := 32) (op ++ 0#24) j = (decide (24 ≤ j) && op.getLsbD (j - 24)) := by
  rw [BitVec.getLsbD_append (x := op) (y := 0#24)]
  split
  · next hj => simp [Nat.not_le.2 hj]
  · next hj => simp [Nat.le_of_not_lt hj]

/-- A mask that keeps the bits from `k` up compares the opcode and the must-be-zero bits between it and `k`. -/
theorem and_mask_eq_iff {w : Word} {op : Byte} {k : Nat} (hk : k ≤ 24) :
    w &&& (BitVec.allOnes 32 <<< k) = op ++ 0#24 ↔ opField w = op ∧ w.extractLsb' k (24 - k) = 0 := by
  constructor
  · intro h
    have hbit (j : Nat) : (decide (k ≤ j) && w.getLsbD j) = (decide (24 ≤ j) && op.getLsbD (j - 24)) := by
      rw [← getLsbD_and_mask, h, getLsbD_pattern]
    refine ⟨BitVec.eq_of_getLsbD_eq fun j hj => ?_, BitVec.eq_of_getLsbD_eq fun j hj => ?_⟩
    · have hkj : k ≤ 24 + j := by omega
      simpa [opField, hj, hkj] using hbit (24 + j)
    · have hkj : ¬24 ≤ k + j := by omega
      simpa [hj, hkj] using hbit (k + j)
  · rintro ⟨rfl, hz⟩
    refine BitVec.eq_of_getLsbD_eq fun j hj => ?_
    rw [getLsbD_and_mask, getLsbD_pattern, opField, BitVec.getLsbD_extractLsb']
    by_cases h24 : 24 ≤ j
    · have hj8 : j - 24 < 8 := by omega
      simp [h24, hk.trans h24, hj8]
    · by_cases hkj : k ≤ j
      · have hbit := congrArg (BitVec.getLsbD · (j - k)) hz
        have hjk : j - k < 24 - k := by omega
        simpa [h24, hkj, hjk] using hbit
      · simp [h24, hkj]

/-- A word matches a command's row when its opcode is the command's and its must-be-zero bits are zero (R82). -/
theorem matches_row_iff {w : Word} {i : Instr} :
    w &&& i.row.mask = i.row.pattern ↔
      opField w = i.opcode ∧ w.extractLsb' i.operandBits (24 - i.operandBits) = 0 :=
  and_mask_eq_iff i.operandBits_le

@[simp] theorem opField_encode (i : Instr) : opField (encode i) = i.opcode := by
  cases i with
  | nop | sreset | mxinit | mxfind | mxtime | mxalign | mxrsv | mxdata | mxbuild | msksel | final =>
    exact Laws.Opcode.top_encodeZ _
  | gfadd | gfmul | gfdiv | gridrd => exact Laws.Opcode.top_encodeBB _ _ _
  | cwrd => exact Laws.Opcode.top_encodeH _ _
  | setver | setecl | rdreg | gfexp | gflog | rsinit | rsdata | rsrd | rsgen | mskeval | mskforce | cwpush =>
    exact Laws.Opcode.top_encodeB _ _

@[simp] theorem lowField_encodeB (op a : Byte) : lowField (encodeB op a) = a := BitVec.extractLsb'_append_eq_right

@[simp] theorem lowField_encodeBB (op a b : Byte) : lowField (encodeBB op a b) = b := BitVec.extractLsb'_append_eq_right

@[simp] theorem midField_encodeBB (op a b : Byte) : midField (encodeBB op a b) = a :=
  (BitVec.extractLsb'_append_eq_of_le (by decide)).trans BitVec.extractLsb'_append_eq_right

@[simp] theorem halfField_encodeH (op : Byte) (x : BitVec 16) : halfField (encodeH op x) = x :=
  BitVec.extractLsb'_append_eq_right

/-- The encoder leaves the must-be-zero bits zero. -/
theorem mustBeZero_encode (i : Instr) : (encode i).extractLsb' i.operandBits (24 - i.operandBits) = 0 := by
  cases i with
  | nop | sreset | mxinit | mxfind | mxtime | mxalign | mxrsv | mxdata | mxbuild | msksel | final => rfl
  | gfadd | gfmul | gfdiv | gridrd =>
    exact (BitVec.extractLsb'_append_eq_of_le (start := 16) (by decide)).trans
      ((BitVec.extractLsb'_append_eq_of_le (by decide)).trans BitVec.extractLsb'_append_eq_right)
  | cwrd | setver | setecl | rdreg | gfexp | gflog | rsinit | rsdata | rsrd | rsgen | mskeval | mskforce | cwpush =>
    exact (BitVec.extractLsb'_append_eq_of_le le_rfl).trans BitVec.extractLsb'_append_eq_right

theorem encode_matches_row (i : Instr) : encode i &&& i.row.mask = i.row.pattern :=
  matches_row_iff.2 ⟨opField_encode i, mustBeZero_encode i⟩

/-! ## Decoding a word of a row -/

theorem fitsByte_toNat (a : Byte) : fitsByte a.toNat = true := decide_eq_true a.isLt

theorem fitsHalf_toNat (x : BitVec 16) : fitsHalf x.toNat = true := decide_eq_true x.isLt

theorem toNat_byteOf {a : Nat} (h : fitsByte a = true) : (byteOf a).toNat = a :=
  BitVec.toNat_ofNat a 8 ▸ Nat.mod_eq_of_lt (of_decide_eq_true h)

theorem toNat_ofNat_half {a : Nat} (h : fitsHalf a = true) : (BitVec.ofNat 16 a).toNat = a :=
  BitVec.toNat_ofNat a 16 ▸ Nat.mod_eq_of_lt (of_decide_eq_true h)

/-- Operands read from a word fit their fields. -/
theorem Instr.withOperands_wellFormed (w : Word) (i : Instr) : (i.withOperands w).WellFormed := by
  cases i with
  | nop | sreset | mxinit | mxfind | mxtime | mxalign | mxrsv | mxdata | mxbuild | msksel | final => rfl
  | gfadd | gfmul | gfdiv | gflog | rsdata | cwpush => rfl
  | setver | setecl | rdreg | gfexp | rsinit | rsrd | rsgen | mskeval | mskforce => exact fitsByte_toNat _
  | cwrd => exact fitsHalf_toNat _
  | gridrd => exact Bool.and_eq_true_iff.2 ⟨fitsByte_toNat _, fitsByte_toNat _⟩

/-- The operands of a well-formed command are read back from its word. -/
theorem Instr.withOperands_encode {i : Instr} (h : i.WellFormed) : i.withOperands (encode i) = i := by
  cases i with
  | nop | sreset | mxinit | mxfind | mxtime | mxalign | mxrsv | mxdata | mxbuild | msksel | final => rfl
  | gfadd | gfmul | gfdiv => simp only [withOperands, encode, midField_encodeBB, lowField_encodeBB]
  | gflog | rsdata | cwpush => simp only [withOperands, encode, lowField_encodeB]
  | setver | setecl | rdreg | gfexp | rsinit | rsrd | rsgen | mskeval | mskforce =>
    simp only [withOperands, encode, lowField_encodeB, toNat_byteOf h]
  | cwrd => simp only [withOperands, encode, halfField_encodeH, toNat_ofNat_half h]
  | gridrd =>
    obtain ⟨hrow, hcol⟩ := Bool.and_eq_true_iff.1 h
    simp only [withOperands, encode, midField_encodeBB, lowField_encodeBB, toNat_byteOf hrow, toNat_byteOf hcol]

/-- The opcode picks the arm of the decoder, and the arm's must-be-zero check passes. -/
theorem decode_of_matches_row {w : Word} {i : Instr} (h : w &&& i.row.mask = i.row.pattern) :
    decode w = some (i.withOperands w) := by
  obtain ⟨hop, hz⟩ := matches_row_iff.1 h
  unfold decode
  rw [hop]
  cases i <;> exact if_pos hz

/-- Settles O1: a command's word matches the command's row, and its operands are read back from it. -/
theorem decodeOfEncode : Obligations.DecodeOfEncode := by
  intro i hwf
  rw [decode_of_matches_row (encode_matches_row i), Instr.withOperands_encode hwf]

/-- A word that decodes matches the row of its command, and the command's operands are those of the word. -/
theorem matches_row_of_decode {w : Word} {i : Instr} (h : decode w = some i) :
    w &&& i.row.mask = i.row.pattern ∧ i.withOperands w = i := by
  obtain rfl := encode_of_decode h
  have hrow := encode_matches_row i
  exact ⟨hrow, Option.some.inj ((decode_of_matches_row hrow).symm.trans h)⟩

/-- Settles O2: the command is made of operands read from the word. -/
theorem encodeOfDecode : Obligations.EncodeOfDecode := by
  intro w i h
  obtain ⟨_, hself⟩ := matches_row_of_decode h
  exact ⟨encode_of_decode h, hself ▸ i.withOperands_wellFormed w⟩

end Sys2Proof
end

section
/-! What a step does with a command word (60_exceptions.md R225, R228), with the opcode table in place of the decoder
(30_encoding.md R82) and the worked encodings (30_encoding.md R90). -/

namespace Sys2Proof.Machine

theorem step_command {s : State} {w : Word} {rest : List HostAction} {i : Instr}
    (hp : s.pending = .command w :: rest) (hd : decode w = some i) : step s = exec i { s with pending := rest } := by
  simp only [step, hp, hd]

theorem step_not_command {s : State} {w : Word} {rest : List HostAction} (hp : s.pending = .command w :: rest)
    (hd : decode w = none) :
    step s = .next (if s.phase = .error then { s with pending := rest }.refusedNow
      else { s with pending := rest }.faulted .illegalCommand w) := by
  simp only [step, hp, hd, illegalCommand, raiseOrRefuse_eq]

/-- Outside phase `ERROR` a word that spells no command raises `IllegalCommand`. -/
theorem step_illegalCommand {s : State} {w : Word} {rest : List HostAction} (hd : decode w = none)
    (hp : s.pending = .command w :: rest) (he : s.phase ≠ .error) :
    step s = .next ({ s with pending := rest }.faulted .illegalCommand w) := by
  rw [step_not_command hp hd, if_neg he]

/-- Settles O5: `step_command` and `step_not_command` say what a step does with a word. -/
theorem stepRunsDecodedCommand : Obligations.StepRunsDecodedCommand := by
  refine fun s => ⟨fun _ _ _ => step_command, fun _ _ => step_not_command, fun hp => ?_⟩
  simp only [step, hp]

/-- A word that matches no row decodes to nothing. -/
theorem decode_eq_none_of_no_row {w : Word} (h : ∀ row ∈ opcodeTable, w &&& row.mask ≠ row.pattern) :
    decode w = none := by
  refine Option.eq_none_iff_forall_ne_some.2 fun i hi => ?_
  obtain ⟨hrow, _⟩ := matches_row_of_decode hi
  exact h i.row i.row_mem hrow

/-- A word that matches a row decodes to a command of that row. -/
theorem decode_of_matches_table {w : Word} {row : OpcodeRow} (hmem : row ∈ opcodeTable)
    (h : w &&& row.mask = row.pattern) : ∃ i, decode w = some i ∧ i.row = row := by
  obtain ⟨i, rfl⟩ := exists_row_eq hmem
  exact ⟨_, decode_of_matches_row h, i.row_withOperands w⟩

/-- Settles O3: the row a word matches is the row of the command it decodes to, so a word matches one row at most. -/
theorem decodeMatchesOpcodeTable : Obligations.DecodeMatchesOpcodeTable := by
  refine ⟨fun w i hd => ?_, fun w row hmem h => ?_, fun w row hmem row' hmem' h h' => ?_, fun w s rest hnone => ?_⟩
  · obtain ⟨hrow, _⟩ := matches_row_of_decode hd
    exact ⟨i.row, i.row_mem, hrow, rfl⟩
  · obtain ⟨i, hd, rfl⟩ := decode_of_matches_table hmem h
    exact ⟨i, hd, rfl⟩
  · obtain ⟨i, hd, rfl⟩ := decode_of_matches_table hmem h
    obtain ⟨i', hd', rfl⟩ := decode_of_matches_table hmem' h'
    rw [Option.some.inj (hd.symm.trans hd')]
  · exact step_illegalCommand (decode_eq_none_of_no_row hnone)

/-- Settles O4: the words evaluate, and `step_illegalCommand` says what a step does with those that decode to nothing. -/
theorem workedEncodings : Obligations.WorkedEncodings := by
  have hnone : ∀ w ∈ [0x00000001#32, 0x05000000#32, 0x11010307#32], decode w = none := by
    simp only [List.forall_mem_cons]
    exact ⟨by decide, by decide, by decide, by simp⟩
  exact ⟨by decide, by decide, by decide, by decide, by decide, by decide, by decide, by decide, by decide, by decide,
    fun w hw => ⟨hnone w hw, fun _ _ => step_illegalCommand (hnone w hw)⟩⟩

end Sys2Proof.Machine
end

section
/-! The response of a command (30_encoding.md R86, 60_exceptions.md R225). -/

namespace Sys2Proof.Machine

/-- No command has phase `ERROR` as its next phase, so a success that ends in phase `ERROR` began there. -/
theorem error_of_nextCode {i : Instr} {p q : Phase} (hc : q.code = (nextCode i).getD p.code) (hq : q = .error) :
    p = .error ∧ i ≠ .sreset := by
  subst hq
  have hnone : nextCode i = none := by
    cases i with
    | nop | rdreg | setver | setecl | gfadd | gfmul | gfdiv | gfexp | gflog | rsinit | rsdata | rsrd | rsgen | mskeval
    | cwpush | cwrd | gridrd => rfl
    | sreset | mxinit | mxfind | mxtime | mxalign | mxrsv | mxdata | mxbuild | msksel | mskforce | final =>
      cases hc
  rw [hnone] at hc
  exact ⟨Phase.code_inj hc.symm, by rintro rfl; cases hnone⟩

/-- Settles O8: `exec_outcome` gives the response of each ending, and bit 31 of it tells a success from the others. -/
theorem oneResponsePerCommand : Obligations.OneResponsePerCommand := by
  intro i s
  have absurd_msb {P : Prop} (e : Option ErrorName) (h : (faultResponse (errCode e)).msb = false) : P :=
    absurd ((faultResponse_msb e).symm.trans h) (by decide)
  have hout := exec_outcome i s
  generalize exec i s = r at hout ⊢
  cases hout with
  | refused he => exact ⟨_, _, rfl, rfl, rfl, fun _ => ⟨he, rfl⟩, fun h => absurd_msb s.err h⟩
  | sequence => exact ⟨_, _, rfl, rfl, rfl, fun _ => ⟨rfl, rfl⟩, fun h => absurd_msb (some .sequenceError) h⟩
  | own _ _ e => exact ⟨_, _, rfl, rfl, rfl, fun _ => ⟨rfl, rfl⟩, fun h => absurd_msb (some e) h⟩
  | success _ t v hr hq hc _ hz =>
    refine ⟨_, _, rfl, congrArg (_ :: ·) hr, hq, fun h => ?_, fun _ hp => ?_⟩
    · exact absurd ((successWord_msb v).symm.trans h) (by decide)
    · obtain ⟨he, hi⟩ := error_of_nextCode hc hp
      obtain rfl := hz he hi
      rfl

end Sys2Proof.Machine
end

section
/-! The field GF(256) of the constant tables (40_gf.md R100 to R104): the tables follow the recurrence of the field
polynomial, so multiplication by `a` is multiplication by `x` repeated `LOG[a]` times, and the laws of the field follow
from those of `timesX`. -/

namespace Sys2Proof.Machine

/-! ## The tables (R101, R102) -/

/-- `EXP[0..255]` are 1 and what repeated multiplication by `x` makes of it. -/
theorem expTable_eq_iterate : expTable = List.iterate timesX 1 256 := by decide +kernel

theorem gfExp_eq_iterate {i : Nat} (hi : i < 256) : gfExp i = timesX^[i] 1 := by
  rw [gfExp, expTable_eq_iterate, List.getD_eq_getElem _ _ ((List.length_iterate ..).symm ▸ hi), List.getElem_iterate]

/-- The powers of `x` repeat after 255 steps. -/
theorem gfExp_mod (n : Nat) : gfExp (n % 255) = timesX^[n] 1 := by
  have hperiod : Function.IsPeriodicPt timesX 255 1 := (gfExp_eq_iterate (by decide)).symm
  rw [gfExp_eq_iterate (by omega), hperiod.iterate_mod_apply]

theorem gfExp_gfLog : ∀ a : Byte, a ≠ 0 → (gfLog a).toNat ≤ 254 ∧ gfExp (gfLog a).toNat = a := by decide +kernel

/-- The 255 non-zero elements have logarithms of their own in 0 to 254, so each of these is the logarithm of one. -/
theorem exists_gfLog_eq {i : Nat} (hi : i ≤ 254) : ∃ a : Byte, a ≠ 0 ∧ (gfLog a).toNat = i := by
  have hlog : ∀ a ∈ Finset.univ.erase (0 : Byte), (gfLog a).toNat ∈ Finset.range 255 ∧ gfExp (gfLog a).toNat = a :=
    fun a ha => (gfExp_gfLog a (Finset.ne_of_mem_erase ha)).imp_left Finset.mem_range_succ_iff.2
  have hinj : Set.InjOn (fun a => (gfLog a).toNat) (Finset.univ.erase (0 : Byte)) :=
    Set.LeftInvOn.injOn (f₁' := gfExp) fun a ha => (hlog a ha).2
  have hcard : (Finset.range 255).card ≤ (Finset.univ.erase (0 : Byte)).card := by
    simp [← FinEnum.card_eq_fintypeCard]
  obtain ⟨a, ha, hai⟩ := Finset.surjOn_of_injOn_of_card_le _ (fun a ha => (hlog a ha).1) hinj hcard
    (Finset.mem_range_succ_iff.2 hi)
  exact ⟨a, Finset.ne_of_mem_erase ha, hai⟩

theorem gfLog_gfExp {i : Nat} (hi : i ≤ 254) : gfExp i ≠ 0 ∧ (gfLog (gfExp i)).toNat = i := by
  obtain ⟨a, ha, rfl⟩ := exists_gfLog_eq hi
  obtain ⟨_, hexp⟩ := gfExp_gfLog a ha
  rw [hexp]
  exact ⟨ha, rfl⟩

/-- Settles O27: `EXP` is the iteration of `timesX`, and `LOG` is its inverse. -/
theorem gfTablesFollowRecurrence : Obligations.GfTablesFollowRecurrence := by
  refine ⟨rfl, fun i hi => ?_, rfl, gfExp_gfLog, fun _ => gfLog_gfExp⟩
  rw [gfExp_eq_iterate (by omega), gfExp_eq_iterate (by omega), Function.iterate_succ_apply']

/-! ## Multiplication by `x` -/

/-- The shift and the reduction apart. -/
theorem timesX_eq (a : Byte) : timesX a = (a <<< 1) ^^^ if a.msb then 0x1D else 0 := by
  unfold timesX
  split
  · rfl
  · exact BitVec.xor_zero.symm

/-- Multiplication by `x` is linear: the shift is, and the reduction is a multiple of the bit shifted out. -/
theorem timesX_xor (a b : Byte) : timesX (a ^^^ b) = timesX a ^^^ timesX b := by
  have hreduce (p q : Bool) :
      (if p ^^ q then 0x1D else 0 : Byte) = (if p then 0x1D else 0) ^^^ if q then 0x1D else 0 := by
    cases p <;> cases q <;> rfl
  rw [timesX_eq, timesX_eq a, timesX_eq b, BitVec.shiftLeft_xor_distrib, BitVec.msb_xor, hreduce]
  ac_rfl

theorem timesX_iterate_xor (k : Nat) (a b : Byte) : timesX^[k] (a ^^^ b) = timesX^[k] a ^^^ timesX^[k] b :=
  Function.Semiconj₂.iterate timesX_xor k a b

theorem timesX_iterate_zero (k : Nat) : timesX^[k] 0 = 0 := Function.iterate_fixed rfl k

theorem timesX_iterate_gfExp (k n : Nat) : timesX^[k] (gfExp (n % 255)) = gfExp ((n + k) % 255) := by
  rw [gfExp_mod, gfExp_mod, Nat.add_comm, Function.iterate_add_apply]

/-! ## Multiplication -/

theorem zero_gfMul (a : Byte) : gfMul 0 a = 0 := if_pos (.inl rfl)

theorem gfMul_zero (a : Byte) : gfMul a 0 = 0 := if_pos (.inr rfl)

theorem gfMul_comm (a b : Byte) : gfMul a b = gfMul b a := by
  simp only [gfMul, or_comm, Nat.add_comm]

/-- A non-zero element is the power of `x` its logarithm names, the exponent taken modulo 255. -/
theorem gfExp_gfLog_mod {a : Byte} (ha : a ≠ 0) : gfExp ((gfLog a).toNat % 255) = a := by
  obtain ⟨hle, heq⟩ := gfExp_gfLog a ha
  rw [Nat.mod_eq_of_lt (by omega), heq]

/-- Multiplication by `a` is multiplication by `x`, `LOG[a]` times. -/
theorem gfMul_eq_iterate {a : Byte} (ha : a ≠ 0) (b : Byte) : gfMul a b = timesX^[(gfLog a).toNat] b := by
  by_cases hb : b = 0
  · rw [hb, gfMul_zero, timesX_iterate_zero]
  · calc gfMul a b = gfExp (((gfLog b).toNat + (gfLog a).toNat) % 255) := by
          rw [gfMul, if_neg (not_or.2 ⟨ha, hb⟩), Nat.add_comm]
      _ = timesX^[(gfLog a).toNat] b := by rw [← timesX_iterate_gfExp, gfExp_gfLog_mod hb]

theorem gfMul_one (a : Byte) : gfMul a 1 = a := by
  have hlog : (gfLog 1).toNat = 0 := rfl
  rw [gfMul_comm, gfMul_eq_iterate (by decide), hlog, Function.iterate_zero_apply]

/-- Repeated multiplications by `x` commute. -/
theorem gfMul_left_comm (a b c : Byte) : gfMul a (gfMul b c) = gfMul b (gfMul a c) := by
  by_cases ha : a = 0
  · rw [ha, zero_gfMul, zero_gfMul, gfMul_zero]
  by_cases hb : b = 0
  · rw [hb, zero_gfMul, zero_gfMul, gfMul_zero]
  simp only [gfMul_eq_iterate ha, gfMul_eq_iterate hb, ← Function.iterate_add_apply, Nat.add_comm]

theorem gfMul_assoc (a b c : Byte) : gfMul (gfMul a b) c = gfMul a (gfMul b c) := by
  rw [gfMul_comm, gfMul_left_comm, gfMul_comm c]

theorem gfMul_gfAdd (a b c : Byte) : gfMul a (gfAdd b c) = gfAdd (gfMul a b) (gfMul a c) := by
  by_cases ha : a = 0
  · rw [ha, zero_gfMul, zero_gfMul, zero_gfMul]
    rfl
  · simp only [gfMul_eq_iterate ha, gfAdd, timesX_iterate_xor]

/-- Division by `b` goes back the `LOG[b]` steps that multiplication by `b` goes forward. -/
theorem gfMul_gfDiv (a : Byte) {b : Byte} (hb : b ≠ 0) : gfMul (gfDiv a b) b = a := by
  by_cases ha : a = 0
  · rw [gfDiv, if_pos ha, zero_gfMul, ha]
  · obtain ⟨hlog, _⟩ := gfExp_gfLog b hb
    have hback : ((gfLog a).toNat + 255 - (gfLog b).toNat + (gfLog b).toNat) % 255 = (gfLog a).toNat % 255 := by omega
    rw [gfDiv, if_neg ha, gfMul_comm, gfMul_eq_iterate hb, timesX_iterate_gfExp, hback, gfExp_gfLog_mod ha]

/-- Settles O28: one lemma for each law; the table forms are the definitions. -/
theorem gfFieldLaws : Obligations.GfFieldLaws :=
  ⟨gfMul_comm, gfMul_assoc, gfMul_gfAdd, gfMul_one, gfMul_zero, fun _ _ => rfl, fun a _ => gfMul_gfDiv a,
    fun _ _ => rfl, fun _ _ _ => rfl⟩

end Sys2Proof.Machine
end

section
/-! The commands of the GF(256) engine (40_gf.md R105 to R109). -/

namespace Sys2Proof.Machine

/-- A command accepted in phases 0 to 8 does what its body says outside phase `ERROR`. -/
theorem gated_of_ne_error {i : Instr} {s : State} {body : Result} (hi : ∀ p, accepted i p = (p != .error))
    (he : s.phase ≠ .error) : gated i s body = body :=
  gated_of_accepted he ((hi s.phase).trans (bne_iff_ne.2 he))

theorem respond_byte (v : Byte) (s : State) : respond (valueOf v) s = .next (s.answered v.toNat) := by
  rw [respond_eq, valueOf_toNat (by decide)]

theorem exec_gfadd {s : State} (a b : Byte) (he : s.phase ≠ .error) :
    exec (.gfadd a b) s = .next (s.answered (gfAdd a b).toNat) :=
  (gated_of_ne_error (fun _ => rfl) he).trans (respond_byte _ s)

theorem exec_gfmul {s : State} (a b : Byte) (he : s.phase ≠ .error) :
    exec (.gfmul a b) s = .next (s.answered (gfMul a b).toNat) :=
  (gated_of_ne_error (fun _ => rfl) he).trans (respond_byte _ s)

theorem exec_gfdiv {s : State} (a b : Byte) (he : s.phase ≠ .error) :
    exec (.gfdiv a b) s = if b = 0 then .next (s.faulted .gfDomainError (encode (.gfdiv a b)))
      else .next (s.answered (gfDiv a b).toNat) := by
  rw [← raise_eq, ← respond_byte]
  exact gated_of_ne_error (fun _ => rfl) he

theorem exec_gfexp {s : State} (a : Nat) (he : s.phase ≠ .error) :
    exec (.gfexp a) s = .next (s.answered (gfExp a).toNat) :=
  (gated_of_ne_error (fun _ => rfl) he).trans (respond_byte _ s)

theorem exec_gflog {s : State} (a : Byte) (he : s.phase ≠ .error) :
    exec (.gflog a) s = if a = 0 then .next (s.faulted .gfDomainError (encode (.gflog a)))
      else .next (s.answered (gfLog a).toNat) := by
  rw [← raise_eq, ← respond_byte]
  exact gated_of_ne_error (fun _ => rfl) he

/-- The field product as the number of a response. -/
theorem gfMul_toNat (a b : Byte) : (gfMul a b).toNat =
    if a = 0 ∨ b = 0 then 0 else (gfExp (((gfLog a).toNat + (gfLog b).toNat) % 255)).toNat :=
  apply_ite BitVec.toNat _ _ _

/-- The field quotient as the number of a response. -/
theorem gfDiv_toNat (a b : Byte) : (gfDiv a b).toNat =
    if a = 0 then 0 else (gfExp (((gfLog a).toNat + 255 - (gfLog b).toNat) % 255)).toNat :=
  apply_ite BitVec.toNat _ _ _

/-- Settles O23: `GFADD` is a gated response of `gfAdd`. -/
theorem gfAddResult : Obligations.GfAddResult := fun a b _ =>
  ⟨rfl, (commonOutcomes_of_gated rfl).1, exec_gfadd a b⟩

/-- Settles O24: `GFMUL` is a gated response of `gfMul`, whose two cases `gfMul_toNat` reads as numbers. -/
theorem gfMulResult : Obligations.GfMulResult := fun a b _ =>
  ⟨rfl, (commonOutcomes_of_gated rfl).1, fun he => gfMul_toNat a b ▸ exec_gfmul a b he⟩

/-- Settles O25: the divisor 0 is the command's one check. -/
theorem gfDivResult : Obligations.GfDivResult := by
  refine fun a b s => ⟨rfl, (commonOutcomes_of_gated rfl).1, fun he hb => ?_, fun he hb => ?_⟩
  · rw [exec_gfdiv a b he, if_pos hb]
  · rw [exec_gfdiv a b he, if_neg hb, gfDiv_toNat]

/-- Settles O26: 0, which has no logarithm, is the one check of `GFLOG`. -/
theorem gfTableReads : Obligations.GfTableReads := by
  refine fun a s => ⟨⟨encodeB_number _ a, (commonOutcomes_of_gated rfl).1, exec_gfexp a.toNat⟩,
    rfl, (commonOutcomes_of_gated rfl).1, fun he ha => ?_, fun he ha => ?_⟩
  · rw [exec_gflog a he, if_neg ha]
  · rw [exec_gflog a he, if_pos ha]

end Sys2Proof.Machine
end

section
/-! The commands of the Reed-Solomon encoder (41_rs.md R124 to R127): what each does outside phase `ERROR`. -/

namespace Sys2Proof.Machine

/-! ## `RSINIT` and `RSDATA` -/

theorem exec_rsinit {s : State} (a : Nat) (he : s.phase ≠ .error) :
    exec (.rsinit a) s =
      if a < 1 ∨ 30 < a then .next (s.faulted .invalidParameter (encode (.rsinit a)))
      else .next ((startBlock a s).answered 0) := by
  rw [← raise_eq]
  exact (gated_of_ne_error (fun _ => rfl) he).trans (if_congr Iff.rfl rfl (respond_eq 0 _))

theorem exec_rsdata {s : State} (a : Byte) (he : s.phase ≠ .error) :
    exec (.rsdata a) s =
      if s.nsym = 0 then .next (s.faulted .sequenceError (encode (.rsdata a)))
      else if 255 < s.dlen.toNat + 1 + s.nsym.toNat then
        .next (s.faulted .messageTooLong (encode (.rsdata a)))
      else .next ((feedBlock a s).answered (feedBlock a s).dlen.toNat) := by
  rw [← raise_eq, ← raise_eq, ← respond_byte]
  exact gated_of_ne_error (fun _ => rfl) he

theorem startBlock_nsym_toNat (s : State) {a : Nat} (ha : a ≤ 30) : (startBlock a s).nsym.toNat = a :=
  Nat.mod_eq_of_lt (by omega)

theorem startBlock_genAt (s : State) (a : Nat) {k : Nat} (hk : k ≤ 30) :
    (startBlock a s).genAt k = if k ≤ a then (genPoly a).getD k 0 else 0 :=
  (ofFn_getD _ k).trans (dif_pos (by omega))

theorem startBlock_remAt (s : State) (a : Nat) {k : Nat} (hk : k < 30) : (startBlock a s).remAt k = 0 := by
  simp [State.remAt, startBlock, hk]

theorem feedBlock_dlen_toNat {s : State} (a : Byte) (h : s.dlen.toNat + 1 + s.nsym.toNat ≤ 255) :
    (feedBlock a s).dlen.toNat = s.dlen.toNat + 1 :=
  Nat.mod_eq_of_lt (by omega)

/-- The shift and the feedback of R125: below `NSYM` only the first two cases of `remShifted` arise, above it only the
last. -/
theorem feedBlock_remAt (s : State) (a : Byte) {k : Nat} (hk : k < 30) :
    (feedBlock a s).remAt k =
      if k < s.nsym.toNat then
        (if k + 1 < s.nsym.toNat then s.remAt (k + 1) else 0) ^^^ gfMul (s.genAt (k + 1)) (a ^^^ s.remAt 0)
      else s.remAt k := by
  refine (ofFn_getD _ k).trans ((dif_pos hk).trans ?_)
  by_cases hn : k < s.nsym.toNat
  · have hshift : remShifted s.nsym.toNat s.remAt k = if k + 1 < s.nsym.toNat then s.remAt (k + 1) else 0 :=
      if_ctx_congr Iff.rfl (fun _ => rfl) fun hlast => if_pos (by omega)
    simp only [if_pos hn, hshift]
  · have hshift : remShifted s.nsym.toNat s.remAt k = s.remAt k := by
      rw [remShifted, if_neg (by omega), if_neg (by omega)]
    simp only [if_neg hn, hshift]

/-- Settles O29: `RSINIT` has one check, and `startBlock` is its effect. -/
theorem rsInitEffect : Obligations.RsInitEffect := by
  refine fun a s => ⟨rfl, (commonOutcomes_of_gated rfl).1, fun he h1 h30 => ?_, fun he ha => ?_⟩
  · rw [exec_rsinit a he, if_neg (by omega)]
    exact ⟨_, rfl, rfl, fun _ => startBlock_genAt s a, fun _ => startBlock_remAt s a⟩
  · rw [exec_rsinit a he, if_pos ha]

/-- Settles O32: `RSDATA` has two checks, and `feedBlock` is its effect. -/
theorem rsDataEffect : Obligations.RsDataEffect := by
  refine fun a s => ⟨rfl, (commonOutcomes_of_gated rfl).1, fun he =>
    ⟨fun hn => ?_, fun hn hlong => ?_, fun hn hfit => ?_⟩⟩
  · rw [exec_rsdata a he, if_pos hn]
  · rw [exec_rsdata a he, if_neg hn, if_pos hlong]
  · have hlen := feedBlock_dlen_toNat a hfit
    rw [exec_rsdata a he, if_neg hn, if_neg (not_lt.2 hfit), hlen]
    exact ⟨_, rfl, rfl, hlen, fun _ => feedBlock_remAt s a⟩

/-! ## `RSRD` and `RSGEN` -/

theorem exec_rsrd {s : State} (a : Nat) (he : s.phase ≠ .error) :
    exec (.rsrd a) s =
      if s.nsym = 0 then .next (s.faulted .sequenceError (encode (.rsrd a)))
      else if s.nsym.toNat ≤ a then .next (s.faulted .rangeError (encode (.rsrd a)))
      else .next (s.answered (s.remAt a).toNat) := by
  rw [← raise_eq, ← raise_eq, ← respond_byte]
  exact gated_of_ne_error (fun _ => rfl) he

theorem exec_rsgen {s : State} (a : Nat) (he : s.phase ≠ .error) :
    exec (.rsgen a) s =
      if s.nsym = 0 then .next (s.faulted .sequenceError (encode (.rsgen a)))
      else if s.nsym.toNat < a then .next (s.faulted .rangeError (encode (.rsgen a)))
      else .next (s.answered (s.genAt a).toNat) := by
  rw [← raise_eq, ← raise_eq, ← respond_byte]
  exact gated_of_ne_error (fun _ => rfl) he

/-- Settles O33: each read has the check of `NSYM` and the check of its index. -/
theorem rsReadback : Obligations.RsReadback := by
  refine fun a s => ⟨rfl, (commonOutcomes_of_gated rfl).1, rfl, (commonOutcomes_of_gated rfl).1, fun he =>
    ⟨fun hn => ⟨?_, ?_⟩, fun hn => ⟨fun ha => ?_, fun ha => ?_, fun ha => ?_, fun ha => ?_⟩⟩⟩
  · rw [exec_rsrd a he, if_pos hn]
  · rw [exec_rsgen a he, if_pos hn]
  · rw [exec_rsrd a he, if_neg hn, if_neg (not_le.2 ha)]
  · rw [exec_rsrd a he, if_neg hn, if_pos ha]
  · rw [exec_rsgen a he, if_neg hn, if_neg (not_lt.2 ha)]
  · rw [exec_rsgen a he, if_neg hn, if_pos ha]

end Sys2Proof.Machine
end

section
/-! The generator polynomial (41_rs.md R121, R122): a pass of the loop multiplies its value everywhere by the value of
one factor. -/

namespace Sys2Proof.Machine

theorem xor_gfMul (a b c : Byte) : gfMul (a ^^^ b) c = gfMul a c ^^^ gfMul b c := by
  rw [gfMul_comm, gfMul_comm a, gfMul_comm b]
  exact gfMul_gfAdd c a b

/-! ## Values of polynomials -/

/-- Horner's rule from two starting values: the value of a sum of polynomials is the sum of their values. -/
theorem foldl_horner_zipWith_xor (x : Byte) {g h : List Byte} (hlen : g.length = h.length) (a b : Byte) :
    (List.zipWith (· ^^^ ·) g h).foldl (fun acc c => gfMul acc x ^^^ c) (a ^^^ b) =
      g.foldl (fun acc c => gfMul acc x ^^^ c) a ^^^ h.foldl (fun acc c => gfMul acc x ^^^ c) b := by
  induction g generalizing h a b with
  | nil => rw [List.eq_nil_of_length_eq_zero hlen.symm]; rfl
  | cons c g ih =>
    cases h with
    | nil => cases hlen
    | cons d h =>
      have hstep : gfMul (a ^^^ b) x ^^^ (c ^^^ d) = gfMul a x ^^^ c ^^^ (gfMul b x ^^^ d) := by
        rw [xor_gfMul]
        ac_rfl
      simp only [List.zipWith_cons_cons, List.foldl_cons, hstep]
      exact ih (Nat.succ.inj hlen) _ _

theorem polyEval_zipWith_xor (x : Byte) {g h : List Byte} (hlen : g.length = h.length) :
    polyEval (List.zipWith (· ^^^ ·) g h) x = polyEval g x ^^^ polyEval h x :=
  foldl_horner_zipWith_xor x hlen 0 0

theorem polyEval_concat (g : List Byte) (c x : Byte) : polyEval (g ++ [c]) x = gfMul (polyEval g x) x ^^^ c := by
  simp only [polyEval, List.foldl_append, List.foldl_cons, List.foldl_nil]

/-- A coefficient 0 at the low end multiplies by the variable. -/
theorem polyEval_concat_zero (g : List Byte) (x : Byte) : polyEval (g ++ [0]) x = gfMul (polyEval g x) x :=
  (polyEval_concat g 0 x).trans BitVec.xor_zero

/-- A coefficient 0 at the high end changes no value. -/
theorem polyEval_zero_cons (g : List Byte) (x : Byte) : polyEval (0 :: g) x = polyEval g x := by
  rw [polyEval, List.foldl_cons, zero_gfMul]
  rfl

theorem polyEval_map_gfMul (g : List Byte) (r x : Byte) :
    polyEval (g.map fun c => gfMul c r) x = gfMul (polyEval g x) r := by
  induction g using List.reverseRecOn with
  | nil => exact (zero_gfMul r).symm
  | append_singleton g c ih =>
    rw [List.map_append, List.map_singleton, polyEval_concat, ih, polyEval_concat, xor_gfMul, gfMul_assoc,
      gfMul_comm r, ← gfMul_assoc]

/-! ## One factor -/

theorem genTimesRoot_length (g : List Byte) (i : Nat) : (genTimesRoot g i).length = g.length + 1 := by
  simp [genTimesRoot]

theorem genTimesRoot_head? {g : List Byte} {c : Byte} (i : Nat) (h : g.head? = some c) :
    (genTimesRoot g i).head? = some c := by
  obtain ⟨g, rfl⟩ := List.head?_eq_some_iff.1 h
  simp [genTimesRoot]

theorem polyEval_genTimesRoot (g : List Byte) (i : Nat) (x : Byte) :
    polyEval (genTimesRoot g i) x = gfMul (polyEval g x) (x ^^^ gfExp i) := by
  rw [genTimesRoot, polyEval_zipWith_xor x (by simp), polyEval_concat_zero, polyEval_zero_cons, polyEval_map_gfMul]
  exact (gfMul_gfAdd _ _ _).symm

/-! ## The product -/

theorem genPoly_succ (n : Nat) : genPoly (n + 1) = genTimesRoot (genPoly n) n := by
  simp [genPoly, List.range_succ]

theorem genPoly_length (n : Nat) : (genPoly n).length = n + 1 := by
  induction n with
  | zero => rfl
  | succ n ih => rw [genPoly_succ, genTimesRoot_length, ih]

theorem genPoly_head? (n : Nat) : (genPoly n).head? = some 1 := by
  induction n with
  | zero => rfl
  | succ n ih => rw [genPoly_succ, genTimesRoot_head? n ih]

/-- A root of an earlier factor stays a root, and the last factor brings its own. -/
theorem polyEval_genPoly_gfExp {i n : Nat} (hi : i < n) : polyEval (genPoly n) (gfExp i) = 0 := by
  induction n with
  | zero => cases hi
  | succ n ih =>
    rw [genPoly_succ, polyEval_genTimesRoot]
    rcases Nat.lt_succ_iff_lt_or_eq.1 hi with hlt | rfl
    · rw [ih hlt, zero_gfMul]
    · exact (congrArg (gfMul _) BitVec.xor_self).trans (gfMul_zero _)

/-- Settles O31: one lemma for each part, by induction on the number of factors. -/
theorem generatorRoots : Obligations.GeneratorRoots := fun nsym _ =>
  ⟨genPoly_length nsym, genPoly_head? nsym, fun _ => polyEval_genPoly_gfExp⟩

/-- Settles O30: the sixteen printed rows are what `genPoly` evaluates to. -/
theorem generatorTable : Obligations.GeneratorTable := by
  unfold Obligations.GeneratorTable
  decide +kernel

end Sys2Proof.Machine
end

section
/-! D0's buffer form of the encoder (41_rs.md R123): it is linear (R129), and the streaming form computes it, since
`REM` is what the buffer's leading positions hold beyond the data still to come. -/

namespace Sys2Proof.Machine

/-! ## One step of the buffer -/

theorem bufferStep_zero (gen rest : List Byte) : bufferStep gen 0 rest = rest := if_pos rfl

theorem bufferStep_length (gen : List Byte) (coef : Byte) (rest : List Byte) :
    (bufferStep gen coef rest).length = rest.length := by
  unfold bufferStep
  split
  · rfl
  · simp only [List.length_zipWith, List.length_append, List.length_map, List.length_replicate]
    omega

/-- Every position takes its multiple of the leading coefficient; beyond the generator, and for the coefficient 0,
that multiple is 0. -/
theorem bufferStep_getElem (gen : List Byte) (coef : Byte) (rest : List Byte) (k : Nat)
    (h : k < (bufferStep gen coef rest).length) :
    (bufferStep gen coef rest)[k] =
      rest[k]'(bufferStep_length gen coef rest ▸ h) ^^^ gfMul (gen.getD k 0) coef := by
  by_cases hc : coef = 0
  · simp only [hc, bufferStep_zero, gfMul_zero]
    exact BitVec.xor_zero.symm
  · simp only [bufferStep, if_neg hc, List.getElem_zipWith, List.getElem_append]
    by_cases hk : k < gen.length
    · simp [hk]
    · have hgen : gen.getD k 0 = 0 := List.getD_eq_default _ _ (not_lt.1 hk)
      rw [hgen, zero_gfMul]
      simp [hk]

theorem bufferStep_zipWith_xor (gen : List Byte) (c d : Byte) (xs ys : List Byte) :
    bufferStep gen (c ^^^ d) (List.zipWith (· ^^^ ·) xs ys) =
      List.zipWith (· ^^^ ·) (bufferStep gen c xs) (bufferStep gen d ys) := by
  refine List.ext_getElem (by simp [bufferStep_length]) fun k _ _ => ?_
  have hmul : gfMul (gen.getD k 0) (c ^^^ d) = gfMul (gen.getD k 0) c ^^^ gfMul (gen.getD k 0) d := gfMul_gfAdd _ _ _
  simp only [bufferStep_getElem, List.getElem_zipWith, hmul]
  ac_rfl

/-! ## The whole block -/

theorem bufferRun_zipWith_xor (gen : List Byte) (n : Nat) {xs ys : List Byte} (hlen : xs.length = ys.length) :
    bufferRun gen n (List.zipWith (· ^^^ ·) xs ys) =
      List.zipWith (· ^^^ ·) (bufferRun gen n xs) (bufferRun gen n ys) := by
  induction n generalizing xs ys with
  | zero => rfl
  | succ n ih =>
    match xs, ys, hlen with
    | [], [], _ => rfl
    | c :: xs, d :: ys, hlen =>
      have hlen' : (bufferStep gen c xs).length = (bufferStep gen d ys).length := by
        rw [bufferStep_length, bufferStep_length, Nat.succ.inj hlen]
      calc bufferRun gen (n + 1) (List.zipWith (· ^^^ ·) (c :: xs) (d :: ys))
          = bufferRun gen n (List.zipWith (· ^^^ ·) (bufferStep gen c xs) (bufferStep gen d ys)) :=
            congrArg (bufferRun gen n) (bufferStep_zipWith_xor gen c d xs ys)
        _ = _ := ih hlen'

theorem bufferRun_replicate_zero (gen : List Byte) (n m : Nat) :
    bufferRun gen n (List.replicate (n + m) 0) = List.replicate m 0 := by
  induction n with
  | zero => rw [Nat.zero_add]; rfl
  | succ n ih => rw [Nat.succ_add, List.replicate_succ, bufferRun, bufferStep_zero, ih]

theorem rsBlock_zipWith_xor {d e : List Byte} (nsym : Nat) (hlen : d.length = e.length) :
    rsBlock (List.zipWith (· ^^^ ·) d e) nsym = List.zipWith (· ^^^ ·) (rsBlock d nsym) (rsBlock e nsym) := by
  have hbuf : List.zipWith (· ^^^ ·) d e ++ List.replicate nsym 0 =
      List.zipWith (· ^^^ ·) (d ++ List.replicate nsym 0) (e ++ List.replicate nsym 0) := by
    rw [List.zipWith_append hlen, List.zipWith_replicate, Nat.min_self]
    rfl
  have hd : (List.zipWith (· ^^^ ·) d e).length = d.length := by simp [hlen]
  rw [rsBlock, hbuf, hd, bufferRun_zipWith_xor _ _ (by simp [hlen]), rsBlock, rsBlock, hlen]

theorem rsBlock_replicate_zero (n nsym : Nat) : rsBlock (List.replicate n 0) nsym = List.replicate nsym 0 := by
  rw [rsBlock, List.length_replicate, List.replicate_append_replicate, bufferRun_replicate_zero]

/-- Settles O35: each step of the buffer is linear and keeps zeros. -/
theorem encoderLinear : Obligations.EncoderLinear := fun nsym _ _ =>
  ⟨fun _ _ => rsBlock_zipWith_xor nsym, fun n => rsBlock_replicate_zero n nsym⟩

/-! ## The streaming form -/

/-- The buffer of R123 that the state stands for while `data` is still to come: the data, then zeros, with
`REM[0..NSYM-1]` added to the leading positions. -/
def streamBuffer (s : State) (data : List Byte) : List Byte :=
  (List.range (data.length + s.nsym.toNat)).map fun k =>
    data.getD k 0 ^^^ if k < s.nsym.toNat then s.remAt k else 0

/-- `GEN[1..NSYM]`: the generator in the state without its leading coefficient. -/
def genTail (s : State) : List Byte := (List.range s.nsym.toNat).map fun k => s.genAt (k + 1)

theorem genTail_getD (s : State) (k : Nat) :
    (genTail s).getD k 0 = if k < s.nsym.toNat then s.genAt (k + 1) else 0 := by
  split <;> simp [genTail, *]

/-- At the end of the data the buffer is the remainder. -/
theorem streamBuffer_nil_getD {s : State} {k : Nat} (hk : k < s.nsym.toNat) :
    (streamBuffer s []).getD k 0 = s.remAt k := by
  simp [streamBuffer, hk]

/-- The leading coefficient of the buffer is the feedback `a ^ REM[0]`. -/
theorem streamBuffer_cons {s : State} (hn : 0 < s.nsym.toNat) (a : Byte) (data : List Byte) :
    streamBuffer s (a :: data) = (a ^^^ s.remAt 0) ::
      (List.range (data.length + s.nsym.toNat)).map fun k =>
        data.getD k 0 ^^^ if k + 1 < s.nsym.toNat then s.remAt (k + 1) else 0 := by
  rw [streamBuffer, List.length_cons, Nat.succ_add, List.range_succ_eq_map, List.map_cons, List.map_map, if_pos hn]
  rfl

/-- `RSDATA` makes the step of the buffer form. -/
theorem bufferRun_streamBuffer_cons {s : State} (hn : 0 < s.nsym.toNat) (hn30 : s.nsym.toNat ≤ 30) (a : Byte)
    (data : List Byte) :
    bufferRun (genTail s) (data.length + 1) (streamBuffer s (a :: data)) =
      bufferRun (genTail s) data.length (streamBuffer (feedBlock a s) data) := by
  rw [streamBuffer_cons hn, bufferRun]
  congr 1
  refine List.ext_getElem (by simp [bufferStep_length, streamBuffer, feedBlock]) fun k _ _ => ?_
  rw [bufferStep_getElem, genTail_getD, List.getElem_map, List.getElem_range]
  simp only [streamBuffer, List.getElem_map, List.getElem_range]
  have hnsym : (feedBlock a s).nsym = s.nsym := rfl
  by_cases hk : k < s.nsym.toNat
  · rw [hnsym, if_pos hk, if_pos hk, feedBlock_remAt s a (by omega), if_pos hk, BitVec.xor_assoc]
  · rw [hnsym, if_neg hk, if_neg hk, if_neg (by omega), zero_gfMul]
    exact BitVec.xor_zero

theorem execAll_cons {i : Instr} {is : List Instr} {s t : State} (h : exec i s = .next t) :
    execAll (i :: is) s = execAll is t := by
  simp only [execAll, h]

/-- A run of `RSDATA` inside the ceiling leaves in `REM` what the buffer form makes of the buffer. -/
theorem execAll_rsdata {s : State} (data : List Byte) (he : s.phase ≠ .error) (hn : 0 < s.nsym.toNat)
    (hn30 : s.nsym.toNat ≤ 30) (hfit : s.dlen.toNat + data.length + s.nsym.toNat ≤ 255) :
    ∃ t, execAll (data.map .rsdata) s = .next t ∧ ∀ k, k < s.nsym.toNat →
      t.remAt k = (bufferRun (genTail s) data.length (streamBuffer s data)).getD k 0 := by
  induction data generalizing s with
  | nil => exact ⟨s, rfl, fun _ hk => (streamBuffer_nil_getD hk).symm⟩
  | cons a data ih =>
    rw [List.length_cons] at hfit
    have hn0 : s.nsym ≠ 0 := fun h => by simp [h] at hn
    have hexec : exec (.rsdata a) s = .next ((feedBlock a s).answered (feedBlock a s).dlen.toNat) := by
      rw [exec_rsdata a he, if_neg hn0, if_neg (by omega)]
    have hfit' : (feedBlock a s).dlen.toNat + data.length + s.nsym.toNat ≤ 255 := by
      rw [feedBlock_dlen_toNat a (by omega)]
      omega
    obtain ⟨t, hrun, hrem⟩ := ih (s := (feedBlock a s).answered (feedBlock a s).dlen.toNat) he hn hn30 hfit'
    refine ⟨t, (execAll_cons hexec).trans hrun, fun k hk => (hrem k hk).trans ?_⟩
    rw [List.length_cons, bufferRun_streamBuffer_cons hn hn30]
    rfl

/-- After `RSINIT` the buffer is the extended buffer of `rs_block`. -/
theorem streamBuffer_startBlock (s : State) {nsym : Nat} (hn : nsym ≤ 30) (data : List Byte) :
    streamBuffer (startBlock nsym s) data = data ++ List.replicate nsym 0 := by
  refine List.ext_getElem (by simp [streamBuffer, startBlock_nsym_toNat s hn]) fun k _ _ => ?_
  have hzero : (if k < nsym then (startBlock nsym s).remAt k else 0) = 0 :=
    ite_eq_right_iff.2 fun hk => startBlock_remAt s nsym (by omega)
  simp only [streamBuffer, List.getElem_map, List.getElem_range, startBlock_nsym_toNat s hn, hzero]
  refine BitVec.xor_zero.trans ?_
  by_cases hk : k < data.length <;> simp [List.getElem_append, hk]

theorem genTail_startBlock (s : State) {nsym : Nat} (hn : nsym ≤ 30) :
    genTail (startBlock nsym s) = (genPoly nsym).tail := by
  refine List.ext_getElem (by simp [genTail, startBlock_nsym_toNat s hn, genPoly_length]) fun k hk _ => ?_
  simp only [genTail, List.length_map, List.length_range, startBlock_nsym_toNat s hn] at hk
  have hlt : k + 1 < (genPoly nsym).length := by
    rw [genPoly_length]
    omega
  simp only [genTail, List.getElem_map, List.getElem_range, List.getElem_tail]
  rw [startBlock_genAt s nsym (by omega), if_pos (by omega), List.getD_eq_getElem _ _ hlt]

/-- Settles O34: `RSINIT` sets up the extended buffer, and each `RSDATA` makes one step of it. -/
theorem streamingEqualsBufferForm : Obligations.StreamingEqualsBufferForm := by
  intro nsym data s h1 h30 hfit he
  have hnsym := startBlock_nsym_toNat s h30
  have hinit : exec (.rsinit nsym) s = .next ((startBlock nsym s).answered 0) := by
    rw [exec_rsinit nsym he, if_neg (by omega)]
  have hroom : 0 + data.length + (startBlock nsym s).nsym.toNat ≤ 255 := by omega
  obtain ⟨t, hrun, hrem⟩ := execAll_rsdata (s := (startBlock nsym s).answered 0) data he (h1.trans_eq hnsym.symm)
    (hnsym.trans_le h30) hroom
  refine ⟨t, (execAll_cons hinit).trans hrun, fun k hk => (hrem k (hk.trans_eq hnsym.symm)).trans ?_⟩
  rw [rsBlock, ← streamBuffer_startBlock s h30, ← genTail_startBlock s h30]
  rfl

end Sys2Proof.Machine
end

section
/-! The commands of the matrix builder that write patterns (42_matrix.md R141 to R153): what each leaves in every cell
of the grid, listed or not. -/

namespace Sys2Proof.Machine

/-! ## The command where its phase accepts it -/

/-- A gated command is its body in a phase that accepts it. -/
theorem exec_of_gated {i : Instr} {s : State} {p : Phase} {body : Result} (h : exec i s = gated i s body)
    (hp : s.phase = p) (hne : p ≠ .error := by decide) (ha : accepted i p = true := by rfl) : exec i s = body :=
  h.trans (gated_of_accepted (hp ▸ hne) (hp ▸ ha))

/-- A gated command that checks nothing of its own has its effect in a phase that accepts it. -/
theorem exec_of_gated_respond {i : Instr} {s t : State} {p : Phase} {v : Value}
    (h : exec i s = gated i s (respond v t)) (hp : s.phase = p) (hne : p ≠ .error := by decide)
    (ha : accepted i p = true := by rfl) : exec i s = .next (t.answered v.toNat) :=
  (exec_of_gated h hp hne ha).trans (respond_eq v t)

/-! ## Cells by position

The lists of the model name cells inside the grid, where two positions with one address are one position. -/

theorem Within.eq_of_addr {n r c : Nat} {cells : List (Pos × ModuleState)} (hin : Within n cells) (hn : n ≤ 256)
    (hc : c < 256) {e : Pos × ModuleState} (he : e ∈ cells) (ha : cellAddr r c = cellAddr e.1.1 e.1.2) :
    ((r, c), e.2) ∈ cells := by
  obtain ⟨⟨r', c'⟩, x⟩ := e
  obtain ⟨rfl, rfl⟩ := (cellAddr_inj hc ((hin _ he).2.trans_le hn)).1 ha
  exact he

/-- A cell to which the list gives one state holds it after `setfAll`, as a function cell. -/
theorem gridAt_setfAll_listed {n r c : Nat} {cells : List (Pos × ModuleState)} {x : ModuleState}
    (hin : Within n cells) (hn : n ≤ 256) (hmem : ((r, c), x) ∈ cells) (hone : ∀ y, ((r, c), y) ∈ cells → y = x)
    (g : Grid) : gridAt (setfAll g cells) r c = ⟨x, true⟩ :=
  gridAt_setfAll_mem g cells r c x hmem fun e he ha =>
    hone e.2 (hin.eq_of_addr hn ((hin _ hmem).2.trans_le hn) he ha)

/-- A cell that the list does not name is as before after `setfAll`. -/
theorem gridAt_setfAll_unlisted {n r c : Nat} {cells : List (Pos × ModuleState)} (hin : Within n cells)
    (hn : n ≤ 256) (hc : c < 256) (hnot : ∀ y, ((r, c), y) ∉ cells) (g : Grid) :
    gridAt (setfAll g cells) r c = gridAt g r c :=
  gridAt_setfAll_other g cells r c fun _ he ha => hnot _ (hin.eq_of_addr hn hc he ha)

/-- The register `SIZE` holds a byte, so every column of the grid fits its half of an address. -/
theorem size_le_addr (s : State) : s.size.toNat ≤ 256 := s.size.isLt.le

/-! ## `MXINIT` -/

theorem exec_mxinit {s : State} (hp : s.phase = .idle) :
    exec .mxinit s = if s.configured then .next ((allocGrid s).answered 0)
      else .next (s.faulted .sequenceError (encode .mxinit)) := by
  rw [← raise_eq]
  exact (exec_of_gated rfl hp).trans (if_congr Iff.rfl (respond_eq 0 _) rfl)

theorem not_configured {s : State} (h : s.version = 0 ∨ s.eclv = false) : ¬s.configured = true := by
  rw [State.configured_iff]
  rintro ⟨hv, he⟩
  exact h.elim hv (by simp [he])

/-- Settles O36: `allocGrid_cell` says what every cell holds, since in a column below 256 an address names one cell. -/
theorem mxInitEffect : Obligations.MxInitEffect := by
  refine ⟨rfl, fun _ => commonOutcomes_of_gated rfl, fun s hp => ⟨fun hunset => ?_, fun hv he hwf => ?_⟩⟩
  · rw [exec_mxinit hp, if_neg (not_configured hunset)]
  · rw [exec_mxinit hp, if_pos (State.configured_iff.2 ⟨hv, he⟩)]
    refine ⟨_, rfl, rfl, fun r c hc => (allocGrid_cell hwf r c).trans (if_congr ?_ rfl rfl)⟩
    have hn := size_le_addr s
    constructor
    · rintro ⟨⟨r', c'⟩, hin, ha⟩
      rw [mem_allCells] at hin
      obtain ⟨rfl, rfl⟩ := (cellAddr_inj (by omega) hc).1 ha
      exact hin
    · exact fun hin => ⟨(r, c), (mem_allCells _ r c).2 hin, rfl⟩

/-! ## `MXFIND` -/

theorem ringDist_cast (x y : Int) : (ringDist x y : Int) = max |x| |y| := by
  simp only [ringDist, Nat.cast_max, Int.natCast_natAbs]

/-- The finder and separator colours in the form of `finderRegion`. -/
theorem finderColour_eq (dr dc : Int) : finderColour dr dc =
    if 0 ≤ dr ∧ dr ≤ 6 ∧ 0 ≤ dc ∧ dc ≤ 6 ∧ max |dr - 3| |dc - 3| ≠ 2 then .dark else .light := by
  rw [finderColour, ← ringDist_cast]
  grind

/-- The cells of a finder by position: an offset from -1 to 7 in each direction, inside the grid. -/
theorem mem_finderCells_pos {n r c : Nat} {r0 c0 : Int} {x : ModuleState} : ((r, c), x) ∈ finderCells n r0 c0 ↔
    (r < n ∧ c < n) ∧ (-1 ≤ r - r0 ∧ r - r0 ≤ 7) ∧ (-1 ≤ c - c0 ∧ c - c0 ≤ 7) ∧
      x = finderColour (r - r0) (c - c0) := by
  rw [mem_finderCells]
  constructor
  · rintro ⟨dr, dc, hdr, hdc, hin, heq⟩
    simp only [Prod.mk.injEq] at heq
    obtain ⟨⟨hr, hc⟩, rfl⟩ := heq
    obtain rfl : dr = r - r0 := by omega
    obtain rfl : dc = c - c0 := by omega
    exact ⟨by omega, hdr, hdc, rfl⟩
  · rintro ⟨hin, hdr, hdc, rfl⟩
    exact ⟨r - r0, c - c0, hdr, hdc, by omega, by simp⟩

/-- The three finders list what `finderRegion` describes: the grid cuts each one's 9 by 9 offsets to 8 by 8. -/
theorem mem_allFinderCells {n r c : Nat} {x : ModuleState} (hn : 21 ≤ n) :
    ((r, c), x) ∈ allFinderCells n ↔ finderRegion n r c = some x := by
  simp only [allFinderCells, List.mem_append, mem_finderCells_pos, finderRegion, ← finderColour_eq, sub_zero]
  split_ifs with htl htr hbl
  all_goals simp only [Option.some.injEq, iff_false, eq_comm (a := x)]
  · constructor
    · rintro ((h | h) | h)
      · exact h.2.2.2
      · omega
      · omega
    · exact fun h => .inl (.inl ⟨by omega, by omega, by omega, h⟩)
  · constructor
    · rintro ((h | h) | h)
      · omega
      · exact h.2.2.2
      · omega
    · exact fun h => .inl (.inr ⟨by omega, by omega, by omega, h⟩)
  · constructor
    · rintro ((h | h) | h)
      · omega
      · omega
      · exact h.2.2.2
    · exact fun h => .inr ⟨by omega, by omega, by omega, h⟩
  · omega

theorem exec_mxfind {s : State} (hp : s.phase = .alloc) :
    exec .mxfind s = .next ((placeFinders s).answered 0) :=
  exec_of_gated_respond (i := .mxfind) rfl hp

/-- Settles O37: `finderRegion` gives each cell one state, or none to a cell the list does not name. -/
theorem mxFindEffect : Obligations.MxFindEffect := by
  refine ⟨rfl, fun _ => commonOutcomes_of_gated rfl, fun s hp hn =>
    ⟨_, exec_mxfind hp, rfl, fun r c hc => ?_⟩⟩
  have hin := allFinderCells_within s.size.toNat
  cases hx : finderRegion s.size.toNat r c with
  | some x =>
    exact gridAt_setfAll_listed hin (size_le_addr s) ((mem_allFinderCells hn).2 hx)
      (fun y hy => Option.some.inj (((mem_allFinderCells hn).1 hy).symm.trans hx)) _
  | none =>
    exact gridAt_setfAll_unlisted hin (size_le_addr s) hc
      (fun y hy => absurd (((mem_allFinderCells hn).1 hy).symm.trans hx) (by simp)) _

/-! ## `MXTIME` -/

/-- The timing cells by position. -/
theorem mem_timingCells_pos {n r c : Nat} {x : ModuleState} : ((r, c), x) ∈ timingCells n ↔
    (r = 6 ∧ 8 ≤ c ∧ c + 9 ≤ n ∧ x = timingColour c) ∨ (c = 6 ∧ 8 ≤ r ∧ r + 9 ≤ n ∧ x = timingColour r) := by
  simp only [mem_timingCells, Prod.mk.injEq]
  constructor
  · rintro ⟨k, hk, ⟨⟨rfl, rfl⟩, rfl⟩ | ⟨⟨rfl, rfl⟩, rfl⟩⟩
    · exact .inl ⟨rfl, by omega, by omega, rfl⟩
    · exact .inr ⟨rfl, by omega, by omega, rfl⟩
  · rintro (⟨rfl, h8, hn, rfl⟩ | ⟨rfl, h8, hn, rfl⟩)
    · exact ⟨c, by omega, .inl ⟨⟨rfl, rfl⟩, rfl⟩⟩
    · exact ⟨r, by omega, .inr ⟨⟨rfl, rfl⟩, rfl⟩⟩

theorem exec_mxtime {s : State} (hp : s.phase = .finders) :
    exec .mxtime s = .next ((placeTiming s).answered 0) :=
  exec_of_gated_respond (i := .mxtime) rfl hp

/-- Settles O38: the two timing lines start at index 8, so they name no cell twice. -/
theorem mxTimeEffect : Obligations.MxTimeEffect := by
  refine ⟨rfl, fun _ => commonOutcomes_of_gated rfl, fun s hp =>
    ⟨_, exec_mxtime hp, rfl, fun r c hc => ?_⟩⟩
  have hin := timingCells_within s.size.toNat
  have hn := size_le_addr s
  by_cases hrow : r = 6 ∧ 8 ≤ c ∧ c + 9 ≤ s.size.toNat
  · rw [if_pos hrow]
    refine gridAt_setfAll_listed (x := timingColour c) hin hn
      (mem_timingCells_pos.2 (.inl ⟨hrow.1, hrow.2.1, hrow.2.2, rfl⟩)) (fun y hy => ?_) _
    rcases mem_timingCells_pos.1 hy with ⟨_, _, _, hy⟩ | ⟨_, _, _, _⟩
    · exact hy
    · omega
  rw [if_neg hrow]
  by_cases hcol : c = 6 ∧ 8 ≤ r ∧ r + 9 ≤ s.size.toNat
  · rw [if_pos hcol]
    refine gridAt_setfAll_listed (x := timingColour r) hin hn
      (mem_timingCells_pos.2 (.inr ⟨hcol.1, hcol.2.1, hcol.2.2, rfl⟩)) (fun y hy => ?_) _
    rcases mem_timingCells_pos.1 hy with ⟨_, _, _, _⟩ | ⟨_, _, _, hy⟩
    · omega
    · exact hy
  · rw [if_neg hcol]
    refine gridAt_setfAll_unlisted hin hn hc (fun y hy => ?_) _
    rcases mem_timingCells_pos.1 hy with ⟨h6, h8, h9, _⟩ | ⟨h6, h8, h9, _⟩
    · exact hrow ⟨h6, h8, h9⟩
    · exact hcol ⟨h6, h8, h9⟩

/-! ## `MXALIGN` -/

/-- Only the versions 2 to 40 have alignment centres. -/
theorem version_of_mem_alignCentres {v c : Nat} (hc : c ∈ alignCentres v) : 2 ≤ v ∧ v ≤ 40 := by
  have hv : v < 41 := by
    by_contra hv
    rw [alignCentres, List.getD_eq_default _ _ (not_lt.1 hv)] at hc
    exact absurd hc List.not_mem_nil
  have hsmall : ∀ v < 2, alignCentres v = [] := by decide
  refine ⟨?_, by omega⟩
  by_contra h2
  exact absurd hc (hsmall v (not_le.1 h2) ▸ List.not_mem_nil)

/-- The last centre of the table stands 7 cells from the edge of the grid (42_matrix.md R148). -/
theorem alignCentres_last : ∀ v ≤ 40, 2 ≤ v → (alignCentres v).foldl max 0 = 4 * v + 10 := by decide

/-- Two centres of the table stand so far apart that no two patterns meet. -/
theorem alignCentres_gap : ∀ v ≤ 40, ∀ a ∈ alignCentres v, ∀ b ∈ alignCentres v,
    a ≠ b → a + 12 ≤ b ∨ b + 12 ≤ a := by decide

/-- Two centres near one index are one centre. -/
theorem alignCentres_near {v a b x : Nat} (ha : a ∈ alignCentres v) (hb : b ∈ alignCentres v)
    (hax : |(x : Int) - a| ≤ 2) (hbx : |(x : Int) - b| ≤ 2) : a = b := by
  have hgap := alignCentres_gap v (version_of_mem_alignCentres ha).2 a ha b hb
  rw [abs_le] at hax hbx
  by_contra hne
  have := hgap hne
  omega

/-- The centres that are left out are those next to a finder. -/
theorem alignSkipped_iff {v r0 c0 : Nat} (hr : r0 ∈ alignCentres v) :
    alignSkipped ((alignCentres v).foldl max 0) r0 c0 = true ↔
      (r0 = 6 ∧ c0 = 6) ∨ (r0 = 6 ∧ c0 = 4 * v + 10) ∨ (r0 = 4 * v + 10 ∧ c0 = 6) := by
  obtain ⟨h2, h40⟩ := version_of_mem_alignCentres hr
  simp [alignSkipped, alignCentres_last v h40 h2, or_assoc]

/-- The alignment cells are the patterns about the centres that are placed. -/
theorem mem_alignCells {v : Nat} {e : Pos × ModuleState} :
    e ∈ alignCells v ↔ ∃ r0 c0, IsAlignmentCentre v r0 c0 ∧ e ∈ alignPattern r0 c0 := by
  simp only [alignCells, List.mem_flatMap, List.mem_ite_nil_left, IsAlignmentCentre]
  constructor
  · rintro ⟨r0, hr, c0, hc, hplaced, he⟩
    rw [alignSkipped_iff hr] at hplaced
    exact ⟨r0, c0, ⟨hr, hc, by tauto⟩, he⟩
  · rintro ⟨r0, c0, ⟨hr, hc, hplaced⟩, he⟩
    exact ⟨r0, hr, c0, hc, by rw [alignSkipped_iff hr]; tauto, he⟩

/-- The cells of a pattern by position. -/
theorem mem_alignPattern_pos {r0 c0 r c : Nat} {x : ModuleState} (hr0 : 6 ≤ r0) (hc0 : 6 ≤ c0) :
    ((r, c), x) ∈ alignPattern r0 c0 ↔ |(r : Int) - r0| ≤ 2 ∧ |(c : Int) - c0| ≤ 2 ∧
      x = if max |(r : Int) - r0| |(c : Int) - c0| = 1 then .light else .dark := by
  simp only [mem_alignPattern, Prod.mk.injEq, abs_le, ← ringDist_cast, Nat.cast_eq_one]
  constructor
  · rintro ⟨dr, dc, hdr, hdc, ⟨hr, hc⟩, rfl⟩
    obtain rfl : dr = r - r0 := by omega
    obtain rfl : dc = c - c0 := by omega
    exact ⟨hdr, hdc, rfl⟩
  · rintro ⟨hdr, hdc, rfl⟩
    exact ⟨r - r0, c - c0, hdr, hdc, ⟨by omega, by omega⟩, rfl⟩

/-- The alignment cells by position. -/
theorem mem_alignCells_pos {v r c : Nat} {x : ModuleState} : ((r, c), x) ∈ alignCells v ↔
    ∃ r0 c0, IsAlignmentCentre v r0 c0 ∧ |(r : Int) - r0| ≤ 2 ∧ |(c : Int) - c0| ≤ 2 ∧
      x = if max |(r : Int) - r0| |(c : Int) - c0| = 1 then .light else .dark := by
  rw [mem_alignCells]
  refine exists_congr fun r0 => exists_congr fun c0 => and_congr_right fun ⟨hr, hc, _⟩ => ?_
  have hv := (version_of_mem_alignCentres hr).2
  exact mem_alignPattern_pos (alignCentres_le v hv r0 hr).1 (alignCentres_le v hv c0 hc).1

/-- Every version's alignment cells have an address each; a version above 40 has none. -/
theorem alignCells_within_addr (v : Nat) : Within 256 (alignCells v) := by
  intro e he
  obtain ⟨r0, c0, ⟨hr, _⟩, _⟩ := mem_alignCells.1 he
  have hv := (version_of_mem_alignCentres hr).2
  exact (alignCells_within hv).mono (by omega) e he

theorem exec_mxalign {s : State} (hp : s.phase = .timing) :
    exec .mxalign s = .next ((placeAlignment s).answered 0) :=
  exec_of_gated_respond (i := .mxalign) rfl hp

/-- Settles O39: about one cell there is one centre, so the list gives a cell one state. -/
theorem mxAlignEffect : Obligations.MxAlignEffect := by
  refine ⟨rfl, rfl, fun _ => commonOutcomes_of_gated rfl, fun s hp =>
    ⟨_, exec_mxalign hp, rfl, fun r0 c0 r c hplaced hr hc => ?_, fun r c hc hfar => ?_⟩⟩
  · refine gridAt_setfAll_listed (alignCells_within_addr _) le_rfl
      (mem_alignCells_pos.2 ⟨r0, c0, hplaced, hr, hc, rfl⟩) (fun y hy => ?_) _
    obtain ⟨r1, c1, hplaced', hr', hc', rfl⟩ := mem_alignCells_pos.1 hy
    obtain rfl := alignCentres_near hplaced.1 hplaced'.1 hr hr'
    obtain rfl := alignCentres_near hplaced.2.1 hplaced'.2.1 hc hc'
    rfl
  · refine gridAt_setfAll_unlisted (alignCells_within_addr _) le_rfl hc (fun y hy => ?_) _
    obtain ⟨r0, c0, hplaced, hr, hc, _⟩ := mem_alignCells_pos.1 hy
    exact hfar r0 c0 hplaced ⟨hr, hc⟩

/-! ## `MXRSV` -/

theorem eq_formatCell1 {i r c : Nat} : (r, c) = formatCell1 i ↔
    (c = 8 ∧ ((i ≤ 5 ∧ r = i) ∨ (i = 6 ∧ r = 7) ∨ (i = 7 ∧ r = 8))) ∨
      (r = 8 ∧ ((i = 8 ∧ c = 7) ∨ (9 ≤ i ∧ c = 14 - i))) := by
  unfold formatCell1
  split_ifs <;> simp only [Prod.mk.injEq] <;> omega

theorem eq_formatCell2 {n i r c : Nat} : (r, c) = formatCell2 n i ↔
    (i ≤ 7 ∧ r = 8 ∧ c = n - 1 - i) ∨ (8 ≤ i ∧ r = n - 15 + i ∧ c = 8) := by
  unfold formatCell2
  split_ifs <;> simp only [Prod.mk.injEq] <;> omega

theorem eq_versionCell1 {n i r c : Nat} : (r, c) = versionCell1 n i ↔ r = i / 3 ∧ c = n - 11 + i % 3 :=
  Prod.mk_inj

theorem eq_versionCell2 {n i r c : Nat} : (r, c) = versionCell2 n i ↔ r = n - 11 + i % 3 ∧ c = i / 3 :=
  Prod.mk_inj

/-- The dark module is no information cell. -/
theorem darkModule_not_mem_informationPositions {v n : Nat} (hn : 21 ≤ n) :
    (n - 8, 8) ∉ informationPositions v n := by
  simp only [mem_informationPositions, eq_formatCell1, eq_formatCell2, eq_versionCell1, eq_versionCell2]
  rintro (⟨i, hi, h⟩ | ⟨_, i, hi, h⟩)
  · omega
  · omega

/-- The reserved cells by position. -/
theorem mem_reservedCells_pos {v n : Nat} {p : Pos} {x : ModuleState} : (p, x) ∈ reservedCells v n ↔
    (p ∈ informationPositions v n ∧ x = .reserved) ∨ (p = (n - 8, 8) ∧ x = .dark) := by
  rw [mem_reservedCells, Prod.mk.injEq]

/-- What every cell holds after the reserved cells are written: the list gives each of its cells one state. -/
theorem gridAt_setfAll_reservedCells {v n r c : Nat} (hn : 21 ≤ n) (hn' : n ≤ 256) (hc : c < 256) (g : Grid) :
    gridAt (setfAll g (reservedCells v n)) r c =
      if (r, c) ∈ informationPositions v n then ⟨.reserved, true⟩
      else if (r, c) = (n - 8, 8) then ⟨.dark, true⟩
      else gridAt g r c := by
  have hin : Within n (reservedCells v n) := reservedCells_within hn
  have hdark := darkModule_not_mem_informationPositions (v := v) hn
  split_ifs with hinfo hpos
  · refine gridAt_setfAll_listed hin hn' (mem_reservedCells_pos.2 (.inl ⟨hinfo, rfl⟩)) (fun y hy => ?_) g
    rcases mem_reservedCells_pos.1 hy with ⟨_, hy⟩ | ⟨hy, _⟩
    · exact hy
    · exact absurd (hy ▸ hinfo) hdark
  · refine gridAt_setfAll_listed hin hn' (mem_reservedCells_pos.2 (.inr ⟨hpos, rfl⟩)) (fun y hy => ?_) g
    rcases mem_reservedCells_pos.1 hy with ⟨hy, _⟩ | ⟨_, hy⟩
    · exact absurd hy hinfo
    · exact hy
  · refine gridAt_setfAll_unlisted hin hn' hc (fun y hy => ?_) g
    rcases mem_reservedCells_pos.1 hy with ⟨hy, _⟩ | ⟨hy, _⟩
    · exact hinfo hy
    · exact hpos hy

/-- `MXRSV` leaves the grid `g` with the reserved cells written and in `DCAP` the number `d` of its data cells. -/
theorem reserveAreas_eq (s : State) : ∃ g d, reserveAreas s = { s with grid := g, dcap := d, phase := .reserved } ∧
    g = setfAll s.grid (reservedCells s.version.toNat s.size.toNat) ∧
    d = BitVec.ofNat 15 (countData s.size.toNat g) :=
  ⟨_, _, rfl, rfl, rfl⟩

/-- `MXRSV` responds the new `DCAP`. -/
theorem exec_mxrsv {s : State} (hp : s.phase = .aligned) :
    exec .mxrsv s = .next ((reserveAreas s).answered (reserveAreas s).dcap.toNat) := by
  rw [← valueOf_toNat (n := 15) (by decide)]
  exact exec_of_gated_respond rfl hp

/-- Settles O40: `DCAP` holds the count of every grid of side up to 177. -/
theorem mxRsvEffect : Obligations.MxRsvEffect := by
  refine ⟨rfl, fun _ => commonOutcomes_of_gated rfl, fun s hp hn hn' => ?_⟩
  have hexec := exec_mxrsv hp
  obtain ⟨g, d, heq, hg, hd⟩ := reserveAreas_eq s
  rw [heq] at hexec
  refine ⟨_, hexec, rfl, (congrArg BitVec.toNat hd).trans (countData_ofNat hn' g), fun r c hc => ?_⟩
  change gridAt g r c = _
  rw [hg]
  exact gridAt_setfAll_reservedCells hn (size_le_addr s) hc s.grid

/-- Settles O41: the formulas of R151 evaluated at each index; those of R152 are the definitions. -/
theorem informationCellPositions : Obligations.InformationCells := by
  refine ⟨by decide, fun n hn => ⟨?_, fun _ _ => ⟨rfl, rfl⟩⟩⟩
  simp only [formatCell2, List.range, List.range.loop, List.map]
  grind

end Sys2Proof.Machine
end

section
/-! The commands that write states and keep the function flags, `MXDATA` and `FINAL` (42_matrix.md R155,
43_mask.md R185): their lists name no cell twice. -/

namespace Sys2Proof.Machine

/-! ## Coloured writes

A coloured module is never the unwritten cell, so it is read back whatever the form of the memory. -/

theorem gridAt_setSt_same {x : ModuleState} (hx : Coloured x) (g : Grid) (r c : Nat) :
    gridAt (setSt g r c x) r c = ⟨x, (gridAt g r c).fn⟩ :=
  gridAt_setCell_same_of_ne g r c fun h => hx.ne_unset (congrArg GridCell.st h)

theorem fn_setSt_coloured {x : ModuleState} (hx : Coloured x) (g : Grid) (r c r' c' : Nat) :
    (gridAt (setSt g r c x) r' c').fn = (gridAt g r' c').fn := by
  by_cases ha : cellAddr r' c' = cellAddr r c
  · simpa only [gridAt, ha] using congrArg GridCell.fn (gridAt_setSt_same hx g r c)
  · rw [setSt, gridAt_setCell_other _ ha]

/-- A cell that the list does not name is as before after `setStAll`. -/
theorem gridAt_setStAll_unlisted {n r c : Nat} {cells : List (Pos × ModuleState)} (hin : Within n cells)
    (hn : n ≤ 256) (hc : c < 256) (hnot : ∀ y, ((r, c), y) ∉ cells) (g : Grid) :
    gridAt (setStAll g cells) r c = gridAt g r c :=
  gridAt_setStAll_other g cells r c fun _ he ha => hnot _ (hin.eq_of_addr hn hc he ha)

/-- A cell to which the list gives one colour holds it after `setStAll`, with its old flag. -/
theorem gridAt_setStAll_listed {n r c : Nat} {cells : List (Pos × ModuleState)} {x : ModuleState}
    (hin : Within n cells) (hn : n ≤ 256) (hcol : ∀ e ∈ cells, Coloured e.2) (hmem : ((r, c), x) ∈ cells)
    (hone : ∀ y, ((r, c), y) ∈ cells → y = x) (g : Grid) :
    gridAt (setStAll g cells) r c = ⟨x, (gridAt g r c).fn⟩ := by
  induction cells generalizing g with
  | nil => exact absurd hmem List.not_mem_nil
  | cons e cells ih =>
    obtain ⟨hein, hin'⟩ := List.forall_mem_cons.1 hin
    obtain ⟨hecol, hcol'⟩ := List.forall_mem_cons.1 hcol
    rw [setStAll_cons]
    by_cases hlater : ((r, c), x) ∈ cells
    · rw [ih hin' hcol' hlater fun y hy => hone y (List.mem_cons_of_mem _ hy), fn_setSt_coloured hecol]
    · obtain rfl : ((r, c), x) = e := (List.mem_cons.1 hmem).resolve_right hlater
      have hnot (y : ModuleState) : ((r, c), y) ∉ cells := fun hy =>
        hlater (hone y (List.mem_cons_of_mem _ hy) ▸ hy)
      rw [gridAt_setStAll_unlisted hin' hn (hein.2.trans_le hn) hnot, gridAt_setSt_same hecol]

/-! ## `MXDATA` -/

/-- The `k`-th cell of `PATH` below `DCAP` takes the `k`-th module of the stream. -/
theorem mem_dataCells {s : State} {p : Pos} {x : ModuleState} : (p, x) ∈ dataCells s ↔
    ∃ k < s.dcap.toNat, (path s.size.toNat s.grid)[k]? = some p ∧ x = dataModule s k := by
  simp only [dataCells, List.mem_map, List.mem_zipIdx_iff_getElem?, List.getElem?_take, Prod.mk.injEq,
    Option.ite_none_right_eq_some]
  constructor
  · rintro ⟨⟨_, k⟩, ⟨hk, hp⟩, rfl, rfl⟩
    exact ⟨k, hk, hp, rfl⟩
  · rintro ⟨k, hk, hp, rfl⟩
    exact ⟨(p, k), ⟨hk, hp⟩, rfl, rfl⟩

theorem mem_take_path_of_mem_dataCells {s : State} {p : Pos} {x : ModuleState} (h : (p, x) ∈ dataCells s) :
    p ∈ (path s.size.toNat s.grid).take s.dcap.toNat := by
  obtain ⟨k, hk, hp, _⟩ := mem_dataCells.1 h
  exact List.mem_of_getElem? ((List.getElem?_take_of_lt hk).trans hp)

/-- `PATH` lists no cell at two indices. -/
theorem path_index_unique {n j k : Nat} {g : Grid} {p : Pos} (hj : (path n g)[j]? = some p)
    (hk : (path n g)[k]? = some p) : j = k :=
  List.getElem?_inj (List.getElem?_eq_some_iff.1 hj).1 (path_nodup n g) |>.1 (hj.trans hk.symm)

theorem dataModule_eq (s : State) (k : Nat) : dataModule s k =
    if k < 8 * s.cwlen.toNat ∧ (s.codeword (k / 8)).getLsbD (7 - k % 8) = true then .dark else .light := by
  rw [ite_and]
  rfl

theorem exec_mxdata {s : State} (hp : s.phase = .reserved) :
    exec .mxdata s = if s.dcap.toNat < 8 * s.cwlen.toNat then .next (s.faulted .rangeError (encode .mxdata))
      else .next ((placeData s).answered 0) := by
  rw [← raise_eq]
  exact (exec_of_gated rfl hp).trans (if_congr Iff.rfl rfl (respond_eq 0 _))

/-- Settles O42: `PATH` gives each of its cells one index, and so one module. -/
theorem mxDataEffect : Obligations.MxDataEffect := by
  refine ⟨rfl, fun _ => commonOutcomes_of_gated rfl, fun s hp => ⟨fun hfull => ?_, fun hfit => ?_⟩⟩
  · rw [exec_mxdata hp, if_pos hfull]
  rw [exec_mxdata hp, if_neg (not_lt.2 hfit)]
  refine ⟨_, rfl, rfl, fun k r c hk hpath => ?_, fun r c hc hnot => ?_⟩
  · have hmem : ((r, c), dataModule s k) ∈ dataCells s := mem_dataCells.2 ⟨k, hk, hpath, rfl⟩
    have hfn : (gridAt s.grid r c).fn = false := (mem_path.1 (dataCells_mem hmem).1).2
    rw [← dataModule_eq, ← hfn]
    refine gridAt_setStAll_listed (dataCells_within s) (size_le_addr s) (fun _ he => (dataCells_mem he).2) hmem
      (fun y hy => ?_) s.grid
    obtain ⟨j, _, hj, rfl⟩ := mem_dataCells.1 hy
    rw [path_index_unique hj hpath]
  · exact gridAt_setStAll_unlisted (dataCells_within s) (size_le_addr s) hc
      (fun _ hy => hnot (mem_take_path_of_mem_dataCells hy)) s.grid

/-! ## `FINAL` -/

/-- A format cell carries one bit of the format word. -/
theorem formatCell_index {n i j : Nat} {p : Pos} (hn : 21 ≤ n) (hi : i < 15) (hj : j < 15)
    (hp : p = formatCell1 i ∨ p = formatCell2 n i) (hq : p = formatCell1 j ∨ p = formatCell2 n j) : i = j := by
  obtain ⟨r, c⟩ := p
  simp only [eq_formatCell1, eq_formatCell2] at hp hq
  omega

/-- A version cell carries one bit of the version word. -/
theorem versionCell_index {n i j : Nat} {p : Pos} (hn : 21 ≤ n) (hj : j < 18)
    (hp : p = versionCell1 n i ∨ p = versionCell2 n i) (hq : p = versionCell1 n j ∨ p = versionCell2 n j) :
    i = j := by
  obtain ⟨r, c⟩ := p
  simp only [eq_versionCell1, eq_versionCell2] at hp hq
  omega

/-- No cell is both a format cell and a version cell. -/
theorem formatCell_ne_versionCell {n i j : Nat} {p : Pos} (hn : 21 ≤ n) (hj : j < 18)
    (hp : p = formatCell1 i ∨ p = formatCell2 n i) : ¬(p = versionCell1 n j ∨ p = versionCell2 n j) := by
  obtain ⟨r, c⟩ := p
  simp only [eq_formatCell1, eq_formatCell2, eq_versionCell1, eq_versionCell2] at hp ⊢
  omega

/-- `FINAL` writes nothing but information cells, inside the grid. -/
theorem informationCells_within {s : State} (hn : 21 ≤ s.size.toNat) : Within s.size.toNat (informationCells s) :=
  fun _ he => informationPositions_within hn (informationCells_mem he).1

theorem moduleOfBit_eq (b : Bool) : moduleOfBit b = if b = true then .dark else .light := rfl

theorem gridAt_setStAll_formatCell {s : State} {i : Nat} {p : Pos} (hn : 21 ≤ s.size.toNat) (hi : i < 15)
    (hp : p = formatCell1 i ∨ p = formatCell2 s.size.toNat i) (g : Grid) :
    gridAt (setStAll g (informationCells s)) p.1 p.2 =
      ⟨if (formatWord s.ecl s.mask).getLsbD i = true then .dark else .light, (gridAt g p.1 p.2).fn⟩ := by
  rw [← moduleOfBit_eq]
  refine gridAt_setStAll_listed (informationCells_within hn) (size_le_addr s) (fun _ he => (informationCells_mem he).2)
    (mem_informationCells.2 (.inl ⟨i, hi, hp, rfl⟩)) (fun y hy => ?_) g
  rcases mem_informationCells.1 hy with ⟨j, hj, hq, hy⟩ | ⟨_, j, hj, hq, _⟩
  · rwa [formatCell_index hn hi hj hp hq]
  · exact absurd hq (formatCell_ne_versionCell hn hj hp)

theorem gridAt_setStAll_versionCell {s : State} {i : Nat} {p : Pos} (hn : 21 ≤ s.size.toNat)
    (hv : 7 ≤ s.version.toNat) (hi : i < 18) (hp : p = versionCell1 s.size.toNat i ∨ p = versionCell2 s.size.toNat i)
    (g : Grid) : gridAt (setStAll g (informationCells s)) p.1 p.2 =
      ⟨if (versionWord s.version).getLsbD i = true then .dark else .light, (gridAt g p.1 p.2).fn⟩ := by
  rw [← moduleOfBit_eq]
  refine gridAt_setStAll_listed (informationCells_within hn) (size_le_addr s) (fun _ he => (informationCells_mem he).2)
    (mem_informationCells.2 (.inr ⟨hv, i, hi, hp, rfl⟩)) (fun y hy => ?_) g
  rcases mem_informationCells.1 hy with ⟨j, hj, hq, _⟩ | ⟨_, j, hj, hq, hy⟩
  · exact absurd hp (formatCell_ne_versionCell hn hi hq)
  · rwa [versionCell_index hn hj hp hq]

theorem writeInformation_eq (s : State) : ∃ g, writeInformation s = { s with grid := g, phase := .final } ∧
    g = setStAll s.grid (informationCells s) :=
  ⟨_, rfl, rfl⟩

theorem exec_final {s : State} (hp : s.phase = .masked) :
    exec .final s = .next ((writeInformation s).answered (formatWord s.ecl s.mask).toNat) := by
  rw [← valueOf_toNat (n := 15) (by decide)]
  exact exec_of_gated_respond rfl hp

/-- Settles O52: each information cell carries one bit of one word. -/
theorem finalWritesInformation : Obligations.FinalWritesInformation := by
  refine ⟨rfl, fun _ => commonOutcomes_of_gated rfl, fun s hp hn => ?_⟩
  have hexec := exec_final hp
  obtain ⟨g, heq, hg⟩ := writeInformation_eq s
  rw [heq] at hexec
  refine ⟨_, hexec, rfl, fun i hi p hmem => ?_, fun hv i hi p hmem => ?_, fun r c hc hnot => ?_⟩
  all_goals
    change gridAt g _ _ = _
    rw [hg]
  · exact gridAt_setStAll_formatCell hn hi (List.mem_pair.1 hmem) s.grid
  · exact gridAt_setStAll_versionCell hn hv hi (List.mem_pair.1 hmem) s.grid
  · exact gridAt_setStAll_unlisted (informationCells_within hn) (size_le_addr s) hc
      (fun _ hy => hnot (informationCells_mem hy).1) s.grid

end Sys2Proof.Machine
end

section
/-! `PATH` is the list of the spec's loop, and in phase `RESERVED` lists the data cells (42_matrix.md R154). `MXBUILD`
is the six commands in one (42_matrix.md R157). -/

namespace Sys2Proof.Machine

/-! ## The loop of R154 -/

/-- The data cells of a list of positions, in its order: what the loop appends of the cells it visits. -/
def dataCellsOf (fn : Nat → Nat → Bool) (cells : List Pos) : List Pos := cells.filter fun p => !fn p.1 p.2

/-- The two cells of one row of a strip. -/
theorem foldl_rowCells (fn : Nat → Nat → Bool) (acc : List Pos) (r c : Nat) :
    [c, c - 1].foldl (fun acc c => if fn r c = false then acc ++ [(r, c)] else acc) acc =
      acc ++ dataCellsOf fn [(r, c), (r, c - 1)] := by
  cases h : fn r c <;> cases h' : fn r (c - 1) <;> simp [dataCellsOf, h, h']

/-- One strip of the loop appends the data cells of the strip. -/
theorem foldl_stripCells (n : Nat) (fn : Nat → Nat → Bool) (acc : List Pos) (right k : Nat) :
    (List.range n).foldl (fun acc t =>
      let r := if k % 2 = 0 then n - 1 - t else t
      [right, right - 1].foldl (fun acc c => if fn r c = false then acc ++ [(r, c)] else acc) acc) acc =
      acc ++ dataCellsOf fn (stripCells n right k) := by
  simp only [foldl_rowCells, List.foldl_append_eq_append, ← List.flatMap_def]
  exact congrArg (acc ++ ·) List.filter_flatMap.symm

/-- The loop appends the data cells of the strips that are left, numbered from `k`. -/
theorem pathLoop_eq (n : Nat) (fn : Nat → Nat → Bool) (passes right k : Nat) (acc : List Pos) :
    pathLoop n fn passes right k acc =
      acc ++ dataCellsOf fn (((stripsFrom passes right).zipIdx k).flatMap fun e => stripCells n e.1 e.2) := by
  induction passes generalizing right k acc with
  | zero => exact (List.append_nil acc).symm
  | succ passes ih =>
    rw [stripsFrom_succ, pathLoop]
    split
    · simp only [foldl_stripCells, ih, List.zipIdx_cons, List.flatMap_cons, dataCellsOf, List.filter_append,
        List.append_assoc]
    · simp [dataCellsOf]

/-- A bound of at least the first column is no bound: each strip takes two columns. -/
theorem stripsFrom_bound {b b' right : Nat} (hb : right ≤ b) (hb' : right ≤ b') :
    stripsFrom b right = stripsFrom b' right := by
  induction b generalizing b' right with
  | zero =>
    obtain rfl : right = 0 := by omega
    cases b' <;> rfl
  | succ b ih =>
    cases b' with
    | zero =>
      obtain rfl : right = 0 := by omega
      rfl
    | succ b' =>
      rw [stripsFrom_succ, stripsFrom_succ]
      split_ifs
      · rw [ih (b' := b') (by omega) (by omega)]
      · rw [ih (b' := b') (by omega) (by omega)]
      · rfl

theorem path_eq_pathLoop {n passes : Nat} (g : Grid) (hp : n ≤ passes) :
    path n g = pathLoop n (fun r c => (gridAt g r c).fn) passes (n - 1) 0 [] := by
  rw [pathLoop_eq, stripsFrom_bound (b' := n) (by omega) (by omega)]
  rfl

/-! ## The cells of `PATH` -/

theorem allCells_nodup (n : Nat) : (allCells n).Nodup := by
  refine List.nodup_flatMap.2 ⟨fun r _ => ?_, List.pairwise_lt_range.imp fun {r r'} hlt p hp hq => ?_⟩
  · exact List.nodup_range.map fun _ _ h => congrArg Prod.snd h
  · obtain ⟨_, _, rfl⟩ := List.mem_map.1 hp
    obtain ⟨_, _, hq⟩ := List.mem_map.1 hq
    exact hlt.ne' (congrArg Prod.fst hq)

/-- A list of all data cells, none of them twice, has as many entries as there are data cells. -/
theorem length_eq_countData {n : Nat} {g : Grid} {l : List Pos} (hl : l.Nodup)
    (hmem : ∀ p, p ∈ l ↔ p ∈ allCells n ∧ (gridAt g p.1 p.2).fn = false) : l.length = countData n g := by
  rw [countData, List.countP_eq_length_filter]
  refine ((List.perm_ext_iff_of_nodup hl ((allCells_nodup n).filter _)).2 fun p => ?_).length_eq
  simp [hmem]

/-- In phase `RESERVED` the cells of `PATH` are the data cells of the grid: column 6, which the zigzag skips, has
none. -/
theorem mem_path_reserved {s : State} (hi : s.Inv) (hg : s.GridInv) (hp : s.phase = .reserved) (r c : Nat) :
    (r, c) ∈ path s.size.toNat s.grid ↔ r < s.size.toNat ∧ c < s.size.toNat ∧ (s.cell r c).fn = false := by
  constructor
  · intro hmem
    obtain ⟨hz, hfn⟩ := mem_path.1 hmem
    exact ⟨(zigzag_within hz).1, (zigzag_within hz).2, hfn⟩
  · rintro ⟨hr, hc, hfn⟩
    obtain ⟨_, hx⟩ := hg.exists_dataCell hi hp hr hc hfn
    exact (dataCells_mem hx).1

/-- Settles O43: `pathLoop_eq` for the order, and `mem_path_reserved` for the cells. -/
theorem pathListsDataCellsOnce : Obligations.PathListsDataCellsOnce := by
  refine ⟨fun s _ => path_eq_pathLoop s.grid, fun s hi hg hp => ⟨?_, path_nodup _ _, mem_path_reserved hi hg hp⟩⟩
  rw [hi.dcap_eq (by simp [hp, Phase.code]) (by simp [hp, Phase.code])]
  refine length_eq_countData (path_nodup _ _) fun ⟨r, c⟩ => ?_
  rw [mem_path_reserved hi hg hp, mem_allCells, and_assoc]
  rfl

/-! ## `MXBUILD` -/

theorem exec_mxbuild {s : State} (hp : s.phase = .idle) (hc : s.configured = true) :
    exec .mxbuild s =
      if (buildPatterns s).dcap.toNat < 8 * s.cwlen.toNat then .next (s.faulted .rangeError (encode .mxbuild))
      else .next ((placeData (buildPatterns s)).answered (buildPatterns s).dcap.toNat) := by
  rw [← raise_eq, ← valueOf_toNat (n := 15) (by decide), ← respond_eq]
  exact (exec_of_gated rfl hp).trans (if_pos hc)

theorem exec_mxbuild_unconfigured {s : State} (hp : s.phase = .idle) (hc : ¬s.configured = true) :
    exec .mxbuild s = .next (s.faulted .sequenceError (encode .mxbuild)) := by
  rw [← raise_eq]
  exact (exec_of_gated rfl hp).trans (if_neg hc)

/-- The state with the responses given so far replaced. -/
def State.withResponses (s : State) (q : List Word) : State := { s with responses := q }

theorem State.answered_eq_withResponses (s : State) (v : Nat) :
    s.answered v = s.withResponses (BitVec.ofNat 32 v :: s.responses) := rfl

theorem State.withResponses_withResponses (s : State) (q q' : List Word) :
    (s.withResponses q).withResponses q' = s.withResponses q' := rfl

/-! No state change of the matrix builder looks at the responses. -/

theorem placeFinders_withResponses (s : State) (q : List Word) :
    placeFinders (s.withResponses q) = (placeFinders s).withResponses q := by
  simp only [placeFinders, State.withResponses]

theorem placeTiming_withResponses (s : State) (q : List Word) :
    placeTiming (s.withResponses q) = (placeTiming s).withResponses q := by
  simp only [placeTiming, State.withResponses]

theorem placeAlignment_withResponses (s : State) (q : List Word) :
    placeAlignment (s.withResponses q) = (placeAlignment s).withResponses q := by
  simp only [placeAlignment, State.withResponses]

theorem reserveAreas_withResponses (s : State) (q : List Word) :
    reserveAreas (s.withResponses q) = (reserveAreas s).withResponses q := by
  simp only [reserveAreas, State.withResponses]

theorem dataCells_withResponses (s : State) (q : List Word) : dataCells (s.withResponses q) = dataCells s := rfl

theorem placeData_withResponses (s : State) (q : List Word) :
    placeData (s.withResponses q) = (placeData s).withResponses q := by
  rw [placeData, dataCells_withResponses]
  rfl

/-- The first five commands leave the patterns and some responses `q`. -/
theorem execAll_patterns {s : State} (is : List Instr) (hp : s.phase = .idle) (hc : s.configured = true) :
    ∃ q, execAll (.mxinit :: .mxfind :: .mxtime :: .mxalign :: .mxrsv :: is) s =
      execAll is ((buildPatterns s).withResponses q) := by
  rw [execAll_cons ((exec_mxinit hp).trans (if_pos hc)), execAll_cons (exec_mxfind rfl),
    execAll_cons (exec_mxtime rfl), execAll_cons (exec_mxalign rfl), execAll_cons (exec_mxrsv rfl)]
  simp only [State.answered_eq_withResponses, placeFinders_withResponses, placeTiming_withResponses,
    placeAlignment_withResponses, reserveAreas_withResponses, State.withResponses_withResponses, buildPatterns]
  exact ⟨_, rfl⟩

/-- The six commands leave the state of `MXBUILD` but for the responses. -/
theorem execAll_sixCommands {s : State} (hp : s.phase = .idle) (hc : s.configured = true)
    (hfit : 8 * s.cwlen.toNat ≤ (buildPatterns s).dcap.toNat) :
    ∃ q, execAll [.mxinit, .mxfind, .mxtime, .mxalign, .mxrsv, .mxdata] s =
      .next ((placeData (buildPatterns s)).withResponses q) := by
  obtain ⟨q, hpatterns⟩ := execAll_patterns [.mxdata] hp hc
  have hdata : exec .mxdata ((buildPatterns s).withResponses q) =
      .next ((placeData ((buildPatterns s).withResponses q)).answered 0) :=
    (exec_mxdata rfl).trans (if_neg (not_lt.2 hfit))
  rw [hpatterns, execAll_cons hdata, placeData_withResponses, State.answered_eq_withResponses,
    State.withResponses_withResponses]
  exact ⟨_, rfl⟩

/-- Settles O44: the checks are those of `exec_mxbuild`, and the two runs differ in their responses alone. -/
theorem mxBuildIsSixCommands : Obligations.MxBuildIsSixCommands := by
  refine ⟨rfl, fun _ => commonOutcomes_of_gated rfl, fun s hp => ⟨fun hunset => ?_, fun hv he => ?_⟩⟩
  · exact exec_mxbuild_unconfigured hp (not_configured hunset)
  have hc := State.configured_iff.2 ⟨hv, he⟩
  rw [exec_mxbuild hp hc]
  refine ⟨fun hfull => if_pos hfull, fun hfit => ?_⟩
  obtain ⟨q, hsix⟩ := execAll_sixCommands hp hc hfit
  exact ⟨_, _, if_neg (not_lt.2 hfit), hsix, rfl, rfl⟩

end Sys2Proof.Machine
end

section
/-! The number of data cells of a version (42_matrix.md R158): the function cells of the patterns are four disjoint
sets of positions, the corners, the timing lines, the alignment patterns off the timing lines, and the reserved
cells, each with a size in closed form. -/

namespace Sys2Proof.Machine

/-! ## The function cells of the patterns -/

/-- Every cell the patterns of a version write, in the order of the commands. -/
def patternCells (v n : Nat) : List (Pos × ModuleState) :=
  allFinderCells n ++ timingCells n ++ alignCells v ++ reservedCells v n

theorem buildPatterns_grid (s : State) : (buildPatterns s).grid =
    setfAll (allocGrid s).grid (patternCells s.version.toNat s.size.toNat) := by
  simp only [buildPatterns, patternCells, setfAll_append, reserveAreas_grid, placeAlignment_grid,
    placeAlignment_version, placeAlignment_size, placeTiming_grid, placeTiming_version, placeTiming_size,
    placeFinders_grid, placeFinders_version, placeFinders_size, allocGrid_version, allocGrid_size]

theorem Within.append {n : Nat} {xs ys : List (Pos × ModuleState)} (hx : Within n xs) (hy : Within n ys) :
    Within n (xs ++ ys) := List.forall_mem_append.2 ⟨hx, hy⟩

theorem patternCells_within {v : Nat} (h1 : 1 ≤ v) (h40 : v ≤ 40) :
    Within (4 * v + 17) (patternCells v (4 * v + 17)) :=
  (((allFinderCells_within _).append (timingCells_within _)).append (alignCells_within h40)).append
    (reservedCells_within (by omega))

/-- The positions a list of cells names. -/
def positions (cells : List (Pos × ModuleState)) : Finset Pos := (cells.map Prod.fst).toFinset

theorem mem_positions {cells : List (Pos × ModuleState)} {p : Pos} : p ∈ positions cells ↔ ∃ x, (p, x) ∈ cells := by
  simp [positions]

theorem positions_append (xs ys : List (Pos × ModuleState)) : positions (xs ++ ys) = positions xs ∪ positions ys := by
  simp [positions]

/-- After `setfAll` the function cells are those there were and those listed. -/
theorem fn_setfAll_iff {n r c : Nat} {cells : List (Pos × ModuleState)} (hin : Within n cells) (hn : n ≤ 256)
    (hc : c < 256) (g : Grid) :
    (gridAt (setfAll g cells) r c).fn = true ↔ (gridAt g r c).fn = true ∨ (r, c) ∈ positions cells := by
  rw [mem_positions]
  by_cases hmem : ∃ x, ((r, c), x) ∈ cells
  · obtain ⟨x, hx⟩ := hmem
    exact iff_of_true (fn_setfAll_of_mem hx g) (.inr ⟨x, hx⟩)
  · rw [gridAt_setfAll_unlisted hin hn hc (not_exists.1 hmem), or_iff_left hmem]

/-- A grid whose function cells are the positions of `S` has the others as data cells. -/
theorem countData_add_card {n : Nat} {g : Grid} {S : Finset Pos} (hS : ∀ p ∈ S, p.1 < n ∧ p.2 < n)
    (hfn : ∀ r c, r < n → c < n → ((gridAt g r c).fn = true ↔ (r, c) ∈ S)) : countData n g + S.card = n * n := by
  have hsub : S ⊆ Finset.range n ×ˢ Finset.range n := fun p hp => by simpa using hS p hp
  rw [← length_eq_countData (l := ((Finset.range n ×ˢ Finset.range n) \ S).toList) (Finset.nodup_toList _),
    Finset.length_toList, Finset.card_sdiff_add_card_eq_card hsub, Finset.card_product, Finset.card_range]
  rintro ⟨r, c⟩
  simp only [Finset.mem_toList, Finset.mem_sdiff, Finset.mem_product, Finset.mem_range, mem_allCells]
  refine and_congr_right fun ⟨hr, hc⟩ => ?_
  rw [← hfn r c hr hc, Bool.not_eq_true]

theorem buildPatterns_dcap_toNat {s : State} (hn : s.size.toNat ≤ 177) :
    (buildPatterns s).dcap.toNat = countData s.size.toNat (buildPatterns s).grid := by
  have hside : (placeAlignment (placeTiming (placeFinders (allocGrid s)))).size = s.size := by simp
  rw [buildPatterns, reserveAreas_dcap, hside, countData_ofNat hn]

/-- `DCAP` after the patterns counts the cells the patterns do not write. -/
theorem buildPatterns_dcap_add_card {s : State} (h1 : 1 ≤ s.version.toNat) (h40 : s.version.toNat ≤ 40)
    (hn : s.size.toNat = 4 * s.version.toNat + 17) (hwf : Memory.wf unwrittenCell s.grid = true) :
    (buildPatterns s).dcap.toNat + (positions (patternCells s.version.toNat s.size.toNat)).card =
      s.size.toNat * s.size.toNat := by
  have hin := hn ▸ patternCells_within h1 h40
  rw [buildPatterns_dcap_toNat (by omega)]
  refine countData_add_card (fun p hp => ?_) fun r c hr hc => ?_
  · obtain ⟨_, hx⟩ := mem_positions.1 hp
    exact hin _ hx
  · have halloc : (gridAt (allocGrid s).grid r c).fn = false :=
      congrArg GridCell.fn ((allocGrid_cell hwf r c).trans (if_pos ⟨(r, c), (mem_allCells _ r c).2 ⟨hr, hc⟩, rfl⟩))
    rw [buildPatterns_grid, fn_setfAll_iff hin (by omega) (by omega), halloc]
    simp

/-! ## Corners and timing lines -/

/-- The cells of rows `r1` to `r2 - 1` and columns `c1` to `c2 - 1`. -/
def rectangle (r1 r2 c1 c2 : Nat) : Finset Pos := Finset.Ico r1 r2 ×ˢ Finset.Ico c1 c2

theorem mem_rectangle {r1 r2 c1 c2 r c : Nat} :
    (r, c) ∈ rectangle r1 r2 c1 c2 ↔ (r1 ≤ r ∧ r < r2) ∧ c1 ≤ c ∧ c < c2 := by
  simp [rectangle]

theorem rectangle_card (r1 r2 c1 c2 : Nat) : (rectangle r1 r2 c1 c2).card = (r2 - r1) * (c2 - c1) := by
  simp [rectangle]

/-- The three corners of finders and separators (42_matrix.md R142). -/
def cornerPositions (n : Nat) : Finset Pos :=
  rectangle 0 8 0 8 ∪ (rectangle 0 8 (n - 8) n ∪ rectangle (n - 8) n 0 8)

theorem mem_cornerPositions {n r c : Nat} : (r, c) ∈ cornerPositions n ↔
    (r < 8 ∧ c < 8) ∨ (r < 8 ∧ n - 8 ≤ c ∧ c < n) ∨ (n - 8 ≤ r ∧ r < n ∧ c < 8) := by
  simp only [cornerPositions, Finset.mem_union, mem_rectangle]
  omega

theorem positions_allFinderCells {n : Nat} (hn : 21 ≤ n) : positions (allFinderCells n) = cornerPositions n := by
  ext ⟨r, c⟩
  simp only [mem_positions, mem_allFinderCells hn, mem_cornerPositions, finderRegion]
  split_ifs <;> simp <;> omega

theorem disjoint_of_forall {S T : Finset Pos} (h : ∀ r c, (r, c) ∈ S → (r, c) ∉ T) : Disjoint S T :=
  Finset.disjoint_left.2 fun p => h p.1 p.2

theorem cornerPositions_card {n : Nat} (hn : 21 ≤ n) : (cornerPositions n).card = 192 := by
  have hright : Disjoint (rectangle 0 8 (n - 8) n) (rectangle (n - 8) n 0 8) :=
    disjoint_of_forall fun r c h => by rw [mem_rectangle] at h ⊢; omega
  have hleft : Disjoint (rectangle 0 8 0 8) (rectangle 0 8 (n - 8) n ∪ rectangle (n - 8) n 0 8) :=
    disjoint_of_forall fun r c h => by
      rw [mem_rectangle] at h
      rw [Finset.mem_union, mem_rectangle, mem_rectangle]
      omega
  rw [cornerPositions, Finset.card_union_of_disjoint hleft, Finset.card_union_of_disjoint hright]
  simp only [rectangle_card]
  omega

/-- The timing lines between the corners (42_matrix.md R145). -/
def timingPositions (n : Nat) : Finset Pos := rectangle 6 7 8 (n - 8) ∪ rectangle 8 (n - 8) 6 7

theorem mem_timingPositions {n r c : Nat} : (r, c) ∈ timingPositions n ↔
    (r = 6 ∧ 8 ≤ c ∧ c < n - 8) ∨ (8 ≤ r ∧ r < n - 8 ∧ c = 6) := by
  simp only [timingPositions, Finset.mem_union, mem_rectangle]
  omega

theorem positions_timingCells (n : Nat) : positions (timingCells n) = timingPositions n := by
  ext ⟨r, c⟩
  simp only [mem_positions, mem_timingCells_pos, mem_timingPositions, exists_or, exists_and_left, exists_eq, and_true]
  omega

theorem timingPositions_card (n : Nat) : (timingPositions n).card = 2 * (n - 16) := by
  have hdisj : Disjoint (rectangle 6 7 8 (n - 8)) (rectangle 8 (n - 8) 6 7) :=
    disjoint_of_forall fun r c h => by rw [mem_rectangle] at h ⊢; omega
  rw [timingPositions, Finset.card_union_of_disjoint hdisj]
  simp only [rectangle_card]
  omega

/-! ## Alignment patterns off the timing lines -/

theorem alignCentres_nodup : ∀ v ≤ 40, (alignCentres v).Nodup := by decide

/-- The indices within 2 of one of the centres `cs`. -/
def bands (cs : List Nat) : Finset Nat := cs.toFinset.biUnion fun c => Finset.Icc (c - 2) (c + 2)

theorem mem_bands {cs : List Nat} {x : Nat} : x ∈ bands cs ↔ ∃ c ∈ cs, |(x : Int) - c| ≤ 2 := by
  simp only [bands, Finset.mem_biUnion, List.mem_toFinset, Finset.mem_Icc, abs_le]
  refine exists_congr fun c => and_congr_right fun _ => ?_
  omega

/-- The bands of centres of one version do not meet, and each is 5 indices wide. -/
theorem bands_card {v : Nat} (h40 : v ≤ 40) {cs : List Nat} (hsub : List.Sublist cs (alignCentres v)) :
    (bands cs).card = 5 * cs.length := by
  have hnodup : cs.Nodup := hsub.nodup (alignCentres_nodup v h40)
  rw [bands, Finset.card_biUnion, Finset.sum_const_nat (m := 5), List.toFinset_card_of_nodup hnodup, Nat.mul_comm]
  · intro c hc
    have := alignCentres_le v h40 c (hsub.subset (List.mem_toFinset.1 hc))
    rw [Nat.card_Icc]
    omega
  · intro a ha b hb hne
    have := alignCentres_gap v h40 a (hsub.subset (List.mem_toFinset.1 ha)) b (hsub.subset (List.mem_toFinset.1 hb)) hne
    refine Finset.disjoint_left.2 fun x hx hx' => ?_
    rw [Finset.mem_Icc] at hx hx'
    omega

/-- The centre coordinates off the timing lines, and those of them that are not the last. -/
def farCentres (v : Nat) : List Nat := (alignCentres v).filter fun c => c ≠ 6

def innerCentres (v : Nat) : List Nat := (farCentres v).filter fun c => c ≠ 4 * v + 10

theorem farCentres_length : ∀ v ≤ 40, (farCentres v).length = if 2 ≤ v then v / 7 + 1 else 0 := by decide

theorem innerCentres_length : ∀ v ≤ 40, (innerCentres v).length = if 2 ≤ v then v / 7 else 0 := by decide

/-- The first and the last index of the table (42_matrix.md R148). -/
theorem alignCentres_ends : ∀ v ≤ 40, 2 ≤ v → 6 ∈ alignCentres v ∧ 4 * v + 10 ∈ alignCentres v := by decide

theorem mem_farCentres {v c : Nat} : c ∈ farCentres v ↔ c ∈ alignCentres v ∧ c ≠ 6 := by
  simp [farCentres]

theorem mem_innerCentres {v c : Nat} : c ∈ innerCentres v ↔ c ∈ farCentres v ∧ c ≠ 4 * v + 10 := by
  simp [innerCentres]

/-- A centre off the timing lines is 12 cells from them, and 12 from the last centre unless it is that. -/
theorem farCentres_bounds {v c : Nat} (hc : c ∈ farCentres v) : 18 ≤ c ∧ (c = 4 * v + 10 ∨ c + 12 ≤ 4 * v + 10) := by
  obtain ⟨hc, h6⟩ := mem_farCentres.1 hc
  obtain ⟨h2, h40⟩ := version_of_mem_alignCentres hc
  obtain ⟨hfirst, hlast⟩ := alignCentres_ends v h40 h2
  obtain ⟨hle, hge⟩ := alignCentres_le v h40 c hc
  have hgap6 := alignCentres_gap v h40 c hc 6 hfirst h6
  have hgap := alignCentres_gap v h40 c hc _ hlast
  by_cases hcl : c = 4 * v + 10
  · omega
  · have := hgap hcl
    omega

theorem bands_farCentres_bounds {v x : Nat} (hx : x ∈ bands (farCentres v)) : 16 ≤ x ∧ x < 4 * v + 13 := by
  obtain ⟨c, hc, hx⟩ := mem_bands.1 hx
  have := farCentres_bounds hc
  rw [abs_le] at hx
  omega

theorem bands_innerCentres_bounds {v x : Nat} (hx : x ∈ bands (innerCentres v)) : 16 ≤ x ∧ x < 4 * v + 1 := by
  obtain ⟨c, hc, hx⟩ := mem_bands.1 hx
  obtain ⟨hc, hlast⟩ := mem_innerCentres.1 hc
  have := farCentres_bounds hc
  rw [abs_le] at hx
  omega

theorem farCentres_sublist (v : Nat) : List.Sublist (farCentres v) (alignCentres v) := List.filter_sublist

theorem innerCentres_sublist (v : Nat) : List.Sublist (innerCentres v) (alignCentres v) :=
  List.filter_sublist.trans (farCentres_sublist v)

theorem bands_farCentres_card {v : Nat} (h40 : v ≤ 40) :
    (bands (farCentres v)).card = 5 * if 2 ≤ v then v / 7 + 1 else 0 := by
  rw [bands_card h40 (farCentres_sublist v), farCentres_length v h40]

theorem bands_innerCentres_card {v : Nat} (h40 : v ≤ 40) :
    (bands (innerCentres v)).card = 5 * if 2 ≤ v then v / 7 else 0 := by
  rw [bands_card h40 (innerCentres_sublist v), innerCentres_length v h40]

/-- A pattern is placed about two far centres, or about a timing line and an inner centre: next to the last centre
stand the finders. -/
theorem isAlignmentCentre_iff {v r0 c0 : Nat} : IsAlignmentCentre v r0 c0 ↔
    (r0 ∈ farCentres v ∧ c0 ∈ farCentres v) ∨ (r0 = 6 ∧ c0 ∈ innerCentres v) ∨
      (r0 ∈ innerCentres v ∧ c0 = 6) := by
  have h6 {c : Nat} (hc : c ∈ alignCentres v) : 6 ∈ alignCentres v ∧ 6 ≠ 4 * v + 10 := by
    obtain ⟨h2, h40⟩ := version_of_mem_alignCentres hc
    exact ⟨(alignCentres_ends v h40 h2).1, by omega⟩
  simp only [IsAlignmentCentre, mem_innerCentres, mem_farCentres]
  constructor
  · rintro ⟨hr, hc, h66, h6l, hl6⟩
    by_cases hr6 : r0 = 6
    · exact .inr (.inl ⟨hr6, ⟨hc, fun hc6 => h66 ⟨hr6, hc6⟩⟩, fun hlast => h6l ⟨hr6, hlast⟩⟩)
    by_cases hc6 : c0 = 6
    · exact .inr (.inr ⟨⟨⟨hr, hr6⟩, fun hlast => hl6 ⟨hlast, hc6⟩⟩, hc6⟩)
    · exact .inl ⟨⟨hr, hr6⟩, hc, hc6⟩
  · rintro (⟨⟨hr, hr6⟩, hc, hc6⟩ | ⟨rfl, ⟨hc, hc6⟩, hlast⟩ | ⟨⟨⟨hr, hr6⟩, hlast⟩, rfl⟩)
    · exact ⟨hr, hc, by tauto⟩
    · exact ⟨(h6 hc).1, hc, by have := (h6 hc).2; tauto⟩
    · exact ⟨hr, (h6 hr).1, by have := (h6 hr).2; tauto⟩

/-- The positions of the alignment cells, by bands of rows and of columns. -/
theorem mem_positions_alignCells {v r c : Nat} : (r, c) ∈ positions (alignCells v) ↔
    (r ∈ bands (farCentres v) ∧ c ∈ bands (farCentres v)) ∨
      ((4 ≤ r ∧ r ≤ 8) ∧ c ∈ bands (innerCentres v)) ∨ (r ∈ bands (innerCentres v) ∧ 4 ≤ c ∧ c ≤ 8) := by
  have hline {x : Nat} : 4 ≤ x ∧ x ≤ 8 ↔ |(x : Int) - (6 : Nat)| ≤ 2 := by
    rw [abs_le]
    omega
  simp only [mem_positions, mem_alignCells_pos, isAlignmentCentre_iff, mem_bands, hline]
  constructor
  · rintro ⟨_, r0, c0, ⟨hr, hc⟩ | ⟨rfl, hc⟩ | ⟨hr, rfl⟩, hdr, hdc, rfl⟩
    · exact .inl ⟨⟨r0, hr, hdr⟩, c0, hc, hdc⟩
    · exact .inr (.inl ⟨hdr, c0, hc, hdc⟩)
    · exact .inr (.inr ⟨⟨r0, hr, hdr⟩, hdc⟩)
  · rintro (⟨⟨r0, hr, hdr⟩, c0, hc, hdc⟩ | ⟨hdr, c0, hc, hdc⟩ | ⟨⟨r0, hr, hdr⟩, hdc⟩)
    · exact ⟨_, r0, c0, .inl ⟨hr, hc⟩, hdr, hdc, rfl⟩
    · exact ⟨_, 6, c0, .inr (.inl ⟨rfl, hc⟩), hdr, hdc, rfl⟩
    · exact ⟨_, r0, 6, .inr (.inr ⟨hr, rfl⟩), hdr, hdc, rfl⟩

/-- The indices of a pattern about a timing line, the line itself left out. -/
def besideTiming : Finset Nat := {4, 5, 7, 8}

theorem mem_besideTiming {x : Nat} : x ∈ besideTiming ↔ (4 ≤ x ∧ x ≤ 8) ∧ x ≠ 6 := by
  simp only [besideTiming, Finset.mem_insert, Finset.mem_singleton]
  omega

/-- The alignment cells that are not on the timing lines. -/
def alignPositions (v : Nat) : Finset Pos :=
  bands (farCentres v) ×ˢ bands (farCentres v) ∪
    (besideTiming ×ˢ bands (innerCentres v) ∪ bands (innerCentres v) ×ˢ besideTiming)

theorem mem_alignPositions {v r c : Nat} : (r, c) ∈ alignPositions v ↔
    (r ∈ bands (farCentres v) ∧ c ∈ bands (farCentres v)) ∨
      (((4 ≤ r ∧ r ≤ 8) ∧ r ≠ 6) ∧ c ∈ bands (innerCentres v)) ∨
      (r ∈ bands (innerCentres v) ∧ (4 ≤ c ∧ c ≤ 8) ∧ c ≠ 6) := by
  simp only [alignPositions, Finset.mem_union, Finset.mem_product, mem_besideTiming]

/-- Where the alignment cells off the timing lines lie: away from row 6 and column 6, or beside one of them. -/
theorem alignPositions_where {v r c : Nat} (h : (r, c) ∈ alignPositions v) :
    (16 ≤ r ∧ 16 ≤ c ∧ r < 4 * v + 13 ∧ c < 4 * v + 13) ∨ (4 ≤ r ∧ r ≤ 8 ∧ r ≠ 6 ∧ 16 ≤ c ∧ c < 4 * v + 1) ∨
      (4 ≤ c ∧ c ≤ 8 ∧ c ≠ 6 ∧ 16 ≤ r ∧ r < 4 * v + 1) := by
  rcases mem_alignPositions.1 h with ⟨hr, hc⟩ | ⟨hr, hc⟩ | ⟨hr, hc⟩
  · have := bands_farCentres_bounds hr
    have := bands_farCentres_bounds hc
    omega
  · have := bands_innerCentres_bounds hc
    omega
  · have := bands_innerCentres_bounds hr
    omega

/-- The timing lines and the alignment patterns together: a pattern meets the lines where it is cut off them. -/
theorem timing_union_align (v : Nat) : timingPositions (4 * v + 17) ∪ positions (alignCells v) =
    timingPositions (4 * v + 17) ∪ alignPositions v := by
  ext ⟨r, c⟩
  simp only [Finset.mem_union, mem_positions_alignCells, mem_alignPositions, mem_timingPositions]
  constructor
  · rintro (h | h | ⟨hr, hc⟩ | ⟨hr, hc⟩)
    · exact .inl h
    · exact .inr (.inl h)
    · have := bands_innerCentres_bounds hc
      by_cases h6 : r = 6
      · exact .inl (by omega)
      · exact .inr (.inr (.inl ⟨⟨hr, h6⟩, hc⟩))
    · have := bands_innerCentres_bounds hr
      by_cases h6 : c = 6
      · exact .inl (by omega)
      · exact .inr (.inr (.inr ⟨hr, hc, h6⟩))
  · rintro (h | h | ⟨⟨hr, _⟩, hc⟩ | ⟨hr, hc, _⟩)
    · exact .inl h
    · exact .inr (.inl h)
    · exact .inr (.inr (.inl ⟨hr, hc⟩))
    · exact .inr (.inr (.inr ⟨hr, hc⟩))

theorem alignPositions_card {v : Nat} (h40 : v ≤ 40) :
    (alignPositions v).card = if 2 ≤ v then 25 * (v / 7 + 1) ^ 2 + 40 * (v / 7) else 0 := by
  have hlines : Disjoint (besideTiming ×ˢ bands (innerCentres v)) (bands (innerCentres v) ×ˢ besideTiming) :=
    disjoint_of_forall fun r c h h' => by
      rw [Finset.mem_product, mem_besideTiming] at h
      have := bands_innerCentres_bounds (Finset.mem_product.1 h').1
      omega
  have hfar : Disjoint (bands (farCentres v) ×ˢ bands (farCentres v))
      (besideTiming ×ˢ bands (innerCentres v) ∪ bands (innerCentres v) ×ˢ besideTiming) :=
    disjoint_of_forall fun r c h h' => by
      have hr := bands_farCentres_bounds (Finset.mem_product.1 h).1
      have hc := bands_farCentres_bounds (Finset.mem_product.1 h).2
      simp only [Finset.mem_union, Finset.mem_product, mem_besideTiming] at h'
      omega
  have hbeside : besideTiming.card = 4 := rfl
  rw [alignPositions, Finset.card_union_of_disjoint hfar, Finset.card_union_of_disjoint hlines]
  simp only [Finset.card_product, bands_farCentres_card h40, bands_innerCentres_card h40, hbeside]
  split_ifs
  · ring
  · rfl

/-! ## Reserved cells -/

/-- The two copies of the bits of an information word name no cell twice. -/
theorem nodup_copies {m : Nat} {f g : Nat → Pos} (hne : ∀ i < m, f i ≠ g i)
    (hindex : ∀ i < m, ∀ j < m, ∀ p, p = f i ∨ p = g i → p = f j ∨ p = g j → i = j) :
    ((List.range m).flatMap fun i => [f i, g i]).Nodup := by
  refine List.nodup_flatMap.2 ⟨fun i hi => by simp [hne i (List.mem_range.1 hi)],
    List.pairwise_lt_range.imp_of_mem fun {i j} hi hj hlt p hp hq => ?_⟩
  exact hlt.ne (hindex i (List.mem_range.1 hi) j (List.mem_range.1 hj) p (List.mem_pair.1 hp) (List.mem_pair.1 hq))

theorem formatPositions_nodup {n : Nat} (hn : 21 ≤ n) :
    ((List.range 15).flatMap fun i => [formatCell1 i, formatCell2 n i]).Nodup := by
  refine nodup_copies (fun i hi h => ?_) fun i hi j hj p hp hq => formatCell_index hn hi hj hp hq
  have h1 := eq_formatCell1.1 (Prod.mk.eta (p := formatCell1 i))
  have h2 := eq_formatCell2.1 (Prod.mk.eta.trans h)
  omega

theorem versionPositions_nodup {n : Nat} (hn : 21 ≤ n) :
    ((List.range 18).flatMap fun i => [versionCell1 n i, versionCell2 n i]).Nodup := by
  refine nodup_copies (fun i hi h => ?_) fun i _ j hj p hp hq => versionCell_index hn hj hp hq
  have := eq_versionCell2.1 h
  omega

theorem informationPositions_nodup {v n : Nat} (hn : 21 ≤ n) : (informationPositions v n).Nodup := by
  refine (formatPositions_nodup hn).append ?_ fun p hp hq => ?_
  · split
    · exact versionPositions_nodup hn
    · exact List.nodup_nil
  · simp only [List.mem_ite_nil_right, List.mem_flatMap, List.mem_range, List.mem_pair] at hp hq
    obtain ⟨i, hi, hp⟩ := hp
    obtain ⟨_, j, hj, hq⟩ := hq
    exact formatCell_ne_versionCell hn hj hp hq

theorem informationPositions_length (v n : Nat) :
    (informationPositions v n).length = 30 + if 7 ≤ v then 36 else 0 := by
  rw [informationPositions]
  split_ifs <;> simp

theorem positions_reservedCells (v n : Nat) :
    positions (reservedCells v n) = insert (n - 8, 8) (informationPositions v n).toFinset := by
  ext p
  simp only [mem_positions, mem_reservedCells_pos, exists_or, exists_and_left, exists_eq, and_true,
    Finset.mem_insert, List.mem_toFinset]
  exact or_comm

theorem positions_reservedCells_card {v n : Nat} (hn : 21 ≤ n) :
    (positions (reservedCells v n)).card = 31 + if 7 ≤ v then 36 else 0 := by
  rw [positions_reservedCells, Finset.card_insert_of_notMem, List.toFinset_card_of_nodup, informationPositions_length]
  · omega
  · exact informationPositions_nodup hn
  · rw [List.mem_toFinset]
    exact darkModule_not_mem_informationPositions hn

/-- Where the reserved cells lie: beside the corners on row 8 and column 8, off the timing lines, or in the version
areas. -/
theorem positions_reservedCells_where {v n r c : Nat} (hn : 21 ≤ n) (h : (r, c) ∈ positions (reservedCells v n)) :
    (r = 8 ∧ c ≠ 6 ∧ (c ≤ 8 ∨ n - 8 ≤ c)) ∨ (c = 8 ∧ r ≠ 6 ∧ (r ≤ 8 ∨ n - 8 ≤ r)) ∨
      (r < 6 ∧ n - 11 ≤ c ∧ c < n - 8) ∨ (c < 6 ∧ n - 11 ≤ r ∧ r < n - 8) := by
  simp only [positions_reservedCells, Finset.mem_insert, List.mem_toFinset, mem_informationPositions, Prod.mk.injEq,
    eq_formatCell1, eq_formatCell2, eq_versionCell1, eq_versionCell2] at h
  rcases h with h | ⟨i, hi, h⟩ | ⟨_, i, hi, h⟩
  · omega
  · omega
  · omega

/-! ## The closed form -/

/-- The function cells of a version as four sets that do not meet. -/
theorem positions_patternCells {v : Nat} (h1 : 1 ≤ v) :
    positions (patternCells v (4 * v + 17)) = cornerPositions (4 * v + 17) ∪ (timingPositions (4 * v + 17) ∪
      (alignPositions v ∪ positions (reservedCells v (4 * v + 17)))) := by
  rw [patternCells, positions_append, positions_append, positions_append, positions_allFinderCells (by omega),
    positions_timingCells, Finset.union_assoc (cornerPositions _), timing_union_align]
  simp only [Finset.union_assoc]

theorem align_disjoint_reserved {v n : Nat} (h1 : 1 ≤ v) (hn : n = 4 * v + 17) :
    Disjoint (alignPositions v) (positions (reservedCells v n)) :=
  disjoint_of_forall fun r c ha hr => by
    have := alignPositions_where ha
    have := positions_reservedCells_where (by omega) hr
    omega

theorem timing_disjoint {v n : Nat} (h1 : 1 ≤ v) (hn : n = 4 * v + 17) :
    Disjoint (timingPositions n) (alignPositions v ∪ positions (reservedCells v n)) :=
  disjoint_of_forall fun r c ht h => by
    rw [mem_timingPositions] at ht
    rcases Finset.mem_union.1 h with ha | hr
    · have := alignPositions_where ha
      omega
    · have := positions_reservedCells_where (by omega) hr
      omega

theorem corner_disjoint {v n : Nat} (h1 : 1 ≤ v) (hn : n = 4 * v + 17) : Disjoint (cornerPositions n)
    (timingPositions n ∪ (alignPositions v ∪ positions (reservedCells v n))) :=
  disjoint_of_forall fun r c hcorner h => by
    rw [mem_cornerPositions] at hcorner
    simp only [Finset.mem_union, mem_timingPositions] at h
    rcases h with ht | ha | hr
    · omega
    · have := alignPositions_where ha
      omega
    · have := positions_reservedCells_where (by omega) hr
      omega

theorem positions_patternCells_card {v : Nat} (h1 : 1 ≤ v) (h40 : v ≤ 40) :
    (positions (patternCells v (4 * v + 17))).card = 192 + (2 * (4 * v + 1) +
      ((if 2 ≤ v then 25 * (v / 7 + 1) ^ 2 + 40 * (v / 7) else 0) + (31 + if 7 ≤ v then 36 else 0))) := by
  rw [positions_patternCells h1, Finset.card_union_of_disjoint (corner_disjoint h1 rfl),
    Finset.card_union_of_disjoint (timing_disjoint h1 rfl),
    Finset.card_union_of_disjoint (align_disjoint_reserved h1 rfl), cornerPositions_card (by omega), timingPositions_card, alignPositions_card h40,
    positions_reservedCells_card (by omega)]
  omega

/-- The cells of the alignment patterns off the timing lines, in the form of R158. -/
theorem alignTerm_eq (k : Nat) : (25 * (k + 2) - 10) * (k + 2) - 55 = 25 * (k + 1) ^ 2 + 40 * k := by
  have hfactor : 25 * (k + 2) - 10 = 25 * k + 40 := by omega
  have hproduct : (25 * k + 40) * (k + 2) = 25 * (k + 1) ^ 2 + 40 * k + 55 := by ring
  rw [hfactor, hproduct, Nat.add_sub_cancel]

/-- Settles O45: the data cells are the cells of the grid less the function cells of the patterns. -/
theorem dataCellCounts : Obligations.DataCellCounts := by
  intro s h1 h40 hn hwf
  have htotal := buildPatterns_dcap_add_card h1 h40 hn hwf
  have hsquare (v : Nat) : (4 * v + 17) * (4 * v + 17) = (16 * v + 128) * v + 64 + (8 * v + 225) := by ring
  rw [hn, positions_patternCells_card h1 h40, hsquare] at htotal
  simp only [dataCellCount, alignTerm_eq]
  omega

end Sys2Proof.Machine
end

section
/-! The masks (43_mask.md R170 to R172, R180): what a candidate holds in each cell, what applying a mask leaves in each
cell of the grid, and that the two agree on the dark cells. -/

namespace Sys2Proof.Machine

/-! ## Candidates -/

theorem gridRows_length (n : Nat) (g : Grid) : (gridRows n g).length = n := by simp [gridRows]

theorem candidate_square (m n : Nat) (g : Grid) : Plane.Square n (candidate m (gridRows n g)) := by
  refine ⟨by simp [candidate, gridRows_length], fun row hrow => ?_⟩
  obtain ⟨⟨cells, r⟩, hcells, rfl⟩ := List.mem_map.1 hrow
  obtain ⟨_, _, rfl⟩ := List.mem_map.1 (List.fst_mem_of_mem_zipIdx hcells)
  simp

theorem candidate_at {m n r c : Nat} (hr : r < n) (hc : c < n) (g : Grid) :
    (candidate m (gridRows n g)).at r c = candidateColour m r c (gridAt g r c) := by
  simp [Plane.at, candidate, gridRows, List.getD, hr, hc]

/-- A cell of a candidate is dark when the cell of the grid is `Dark`, unless the mask inverts it (R172). -/
theorem candidateColour_iff (m r c : Nat) (x : GridCell) : candidateColour m r c x = true ↔
    if x.fn = false ∧ maskFormula m r c = true then x.st ≠ .dark else x.st = .dark := by
  have hbase : candidateColour m r c x =
      if x.fn = false ∧ maskFormula m r c = true then !(x.st == .dark) else x.st == .dark := by
    simp [candidateColour]
  rw [hbase]
  split <;> simp

/-! ## Applying a mask -/

/-- The cells that the mask flips, and no others, change (R171, R180). -/
theorem gridAt_applyMask {m n r c : Nat} (hn : n ≤ 256) (hc : c < 256) (g : Grid) :
    gridAt (applyMask m n g) r c =
      if r < n ∧ c < n ∧ (gridAt g r c).fn = false ∧ maskFormula m r c = true then
        ⟨flipModule (gridAt g r c).st, false⟩
      else gridAt g r c := by
  split
  · next h =>
    obtain ⟨hrn, hcn, hfn, hm⟩ := h
    have hflip : ((r, c), flipModule (gridAt g r c).st) ∈ maskFlips m n g :=
      mem_maskFlips.2 ⟨⟨hrn, hcn⟩, hfn, hm, rfl⟩
    rw [← hfn]
    refine gridAt_setStAll_listed (maskFlips_within m n g) hn (fun _ he => maskFlips_coloured he) hflip
      (fun y hy => ?_) g
    obtain ⟨_, _, _, hy⟩ := mem_maskFlips.1 hy
    exact hy
  · next h =>
    refine gridAt_setStAll_unlisted (maskFlips_within m n g) hn hc (fun y hy => h ?_) g
    obtain ⟨⟨hrn, hcn⟩, hfn, hm, _⟩ := mem_maskFlips.1 hy
    exact ⟨hrn, hcn, hfn, hm⟩

theorem flipModule_eq_dark_iff (x : ModuleState) : flipModule x = .dark ↔ x ≠ .dark := by
  cases x <;> simp [flipModule]

/-- Settles O49: both sides of the last part are `candidateColour_iff` of the cell. -/
theorem candidateIsMaskedGrid : Obligations.CandidateIsMaskedGrid := by
  refine ⟨fun r c => by simp [maskFormula], candidate_square, fun m s r c hr hc => ?_, fun m n g r c hn hr hc => ?_⟩
  · rw [candidate_at hr hc, candidateColour_iff]
    rfl
  · change _ ↔ (candidate m (gridRows n g)).at r c = true
    rw [candidate_at hr hc, candidateColour_iff, gridAt_applyMask hn (hc.trans_le hn)]
    by_cases hflip : (gridAt g r c).fn = false ∧ maskFormula m r c = true
    · simp [hr, hc, hflip, flipModule_eq_dark_iff]
    · rw [if_neg hflip, if_neg fun h => hflip h.2.2]

end Sys2Proof.Machine
end

section
/-! The mask commands (43_mask.md R179, R182 to R184) and the words of `FINAL` (R187, R189). -/

namespace Sys2Proof.Machine

/-! ## Choosing and applying a mask -/

/-- `chooseMask` masks the grid, and changes no register but `MASK` and `PHASE`. -/
theorem chooseMask_eq (m : Nat) (s : State) : ∃ g,
    chooseMask m s = { s with mask := BitVec.ofNat 3 m, grid := g, phase := .masked } ∧
      g = applyMask m s.size.toNat s.grid :=
  ⟨_, rfl, rfl⟩

/-- A state that holds the grid of `s` with mask `m` applied is masked in the sense of R171 and R180. -/
theorem gridMasked_of_applyMask {m : Nat} {s t : State} (h : t.grid = applyMask m s.size.toNat s.grid) :
    GridMasked m s t := by
  intro r c hc
  rw [State.cell_eq, h]
  exact gridAt_applyMask (size_le_addr s) hc s.grid

theorem exec_mskforce {a : Nat} {s : State} (hp : s.phase = .placed) :
    exec (.mskforce a) s = if 7 < a then .next (s.faulted .invalidParameter (encode (.mskforce a)))
      else .next ((chooseMask a s).answered (valueOfNat a).toNat) := by
  rw [← raise_eq, ← respond_eq]
  exact exec_of_gated rfl hp

/-- A mask index fits the value of a response. -/
theorem maskIndex_toNat {a : Nat} (ha : a ≤ 7) : (valueOfNat a).toNat = a := valueOfNat_toNat (by omega)

/-- Settles O48: the mask is all that `MSKFORCE` changes. -/
theorem mskForceEffect : Obligations.MskForceEffect := by
  refine fun a s => ⟨rfl, commonOutcomes_of_gated rfl, fun hp => ⟨fun ha => ?_, fun ha => ?_⟩⟩
  · rw [exec_mskforce hp, if_pos ha]
  · rw [exec_mskforce hp, if_neg (not_lt.2 ha), maskIndex_toNat ha]
    obtain ⟨g, heq, hg⟩ := chooseMask_eq a s
    rw [heq]
    exact ⟨_, rfl, rfl, gridMasked_of_applyMask hg⟩

/-! ## `MSKEVAL` -/

/-- `PENV` after `PENV[a]` is set. -/
theorem getLsbD_penvSet (penv : BitVec 8) (a : Nat) {m : Nat} (hm : m < 8) :
    (penvSet penv a).getLsbD m = (decide (m = a) || penv.getLsbD m) := by
  have hbit : (1#8 <<< a).getLsbD m = decide (m = a) := by
    rw [BitVec.getLsbD_shiftLeft, BitVec.getLsbD_one, Bool.eq_iff_iff]
    simp only [Bool.and_eq_true, Bool.not_eq_true', decide_eq_true_eq, decide_eq_false_iff_not]
    omega
  rw [penvSet, BitVec.getLsbD_or, hbit, Bool.or_comm]

theorem exec_mskeval {a : Nat} {s : State} (hp : s.phase = .placed) :
    exec (.mskeval a) s = if 7 < a then .next (s.faulted .invalidParameter (encode (.mskeval a)))
      else .next ((markPenalty a s).answered (valueOfNat (maskScore s a).total).toNat) := by
  rw [← raise_eq, ← respond_eq]
  exact exec_of_gated rfl hp

/-- Settles O46: the state after `MSKEVAL` is `markPenalty`. -/
theorem mskEvalEffect : Obligations.MskEvalEffect := by
  refine fun a s => ⟨rfl, rfl, commonOutcomes_of_gated rfl, fun hp => ⟨fun ha => ?_, fun ha => ?_⟩⟩
  · rw [exec_mskeval hp, if_pos ha]
  · rw [exec_mskeval hp, if_neg (not_lt.2 ha)]
    refine ⟨_, _, rfl, rfl, rfl, fun m => ?_, fun m hm => getLsbD_penvSet s.penv a hm⟩
    change (s.pen.setIfInBounds a _)[m.val] = _
    rw [Vector.getElem_setIfInBounds]
    exact if_congr eq_comm rfl rfl

/-! ## `MSKSEL` -/

/-- `leastMin` picks the first of the least entries (R179). -/
theorem leastMin_spec {l : List Nat} (hl : l ≠ []) : ∃ h : leastMin l < l.length,
    (∀ y ∈ l, l[leastMin l] ≤ y) ∧ ∀ k (hk : k < leastMin l), l[leastMin l] < l[k] := by
  obtain ⟨least, hleast⟩ : ∃ x, l.min? = some x := Option.isSome_iff_exists.1 (List.isSome_min?_of_ne_nil hl)
  obtain ⟨hmem, hle⟩ := List.min?_eq_some_iff.1 hleast
  have hidx : leastMin l = l.idxOf least := by rw [leastMin, hleast]; rfl
  have hlt : leastMin l < l.length := hidx ▸ List.idxOf_lt_length_iff.2 hmem
  have hget : l[leastMin l] = least := by simp only [hidx, List.getElem_idxOf]
  refine ⟨hlt, fun y hy => hget ▸ hle y hy, fun k hk => hget ▸ lt_of_le_of_ne (hle _ (List.getElem_mem _)) ?_⟩
  have hfirst : (l[k] == least) = false := ((List.findIdx_eq hlt).1 hidx.symm).2 k hk
  exact Ne.symm (by simpa using hfirst)

/-- The totals of the eight candidates, by mask. -/
def maskTotals (s : State) : List Nat := ((List.range 8).map (maskScore s)).map Score.total

theorem maskTotals_length (s : State) : (maskTotals s).length = 8 := rfl

theorem getElem_maskTotals {s : State} {m : Nat} (hm : m < (maskTotals s).length) :
    (maskTotals s)[m] = (maskScore s m).total := by
  simp [maskTotals]

theorem selectedMask_eq (s : State) : selectedMask s = leastMin (maskTotals s) := rfl

/-- The selected mask is a mask, its total is the least, and every lesser mask has a greater total. -/
theorem selectedMask_spec (s : State) : selectedMask s ≤ 7 ∧
    (∀ m ≤ 7, (maskScore s (selectedMask s)).total ≤ (maskScore s m).total) ∧
    ∀ m < selectedMask s, (maskScore s (selectedMask s)).total < (maskScore s m).total := by
  have hsome : maskTotals s ≠ [] := List.ne_nil_of_length_eq_add_one (maskTotals_length s)
  obtain ⟨hlt, hle, hbefore⟩ := leastMin_spec hsome
  simp only [getElem_maskTotals, ← selectedMask_eq] at hlt hle hbefore
  refine ⟨Nat.le_of_lt_succ hlt, fun m hm => ?_, hbefore⟩
  have hm : m < (maskTotals s).length := Nat.lt_succ_of_le hm
  exact getElem_maskTotals hm ▸ hle _ (List.getElem_mem hm)

theorem exec_msksel {s : State} (hp : s.phase = .placed) : exec .msksel s =
    .next ((chooseMask (selectedMask s) (markAllPenalties s)).answered (selectedMask s)) := by
  obtain ⟨hindex, _, _⟩ := selectedMask_spec s
  have hexec : exec .msksel s = .next
      ((chooseMask (selectedMask s) (markAllPenalties s)).answered (valueOfNat (selectedMask s)).toNat) :=
    exec_of_gated_respond rfl hp
  rwa [maskIndex_toNat hindex] at hexec

/-- Settles O47: the scores are those of the state before `MSKSEL`, since marking them does not change the grid. -/
theorem mskSelChoosesLeastMinimum : Obligations.MskSelChoosesLeastMinimum := by
  refine ⟨rfl, fun _ => commonOutcomes_of_gated rfl, fun s hp => ?_⟩
  obtain ⟨hindex, hle, hlt⟩ := selectedMask_spec s
  have hexec := exec_msksel hp
  obtain ⟨g, heq, hg⟩ := chooseMask_eq (selectedMask s) (markAllPenalties s)
  rw [heq] at hexec
  refine ⟨_, selectedMask s, hexec, hindex, hle, hlt, rfl, fun m => ?_, gridMasked_of_applyMask hg⟩
  exact Vector.getElem_ofFn m.isLt

/-! ## The format and version words -/

/-- Settles O53: the words are computed. -/
theorem formatAndVersionWords : Obligations.FormatAndVersionWords := by
  unfold Obligations.FormatAndVersionWords
  decide

end Sys2Proof.Machine
end

section
/-! The penalty scores (43_mask.md R173 to R178, R181): each rule as a count of positions, and its bounds. -/

namespace Sys2Proof.Machine

/-! ## The lines and the cells of a plane -/

/-- Row `r` of a plane of side `n`, read cell by cell. -/
def planeRow (n : Nat) (p : Plane) (r : Nat) : List Bool := (List.range n).map fun c => p.at r c

theorem planeRow_length (n : Nat) (p : Plane) (r : Nat) : (planeRow n p r).length = n := by simp [planeRow]

theorem Plane.Square.eq_rows {n : Nat} {p : Plane} (hp : Plane.Square n p) :
    p = (List.range n).map (planeRow n p) := by
  obtain ⟨hlen, hrows⟩ := hp
  refine List.ext_getElem (by simp [hlen]) fun r hr _ => ?_
  have hrow : p[r].length = n := hrows _ (List.getElem_mem hr)
  refine List.ext_getElem (by simp [hrow, planeRow]) fun c hc _ => ?_
  simp [planeRow, Plane.at, List.getD, hr, hc]

/-- The columns are read cell by cell. -/
theorem Plane.Square.columns_eq {n : Nat} {p : Plane} (hp : Plane.Square n p) :
    planeColumns n p = (List.range n).map fun c => (List.range n).map fun r => p.at r c := by
  obtain ⟨hlen, _⟩ := hp
  refine List.map_congr_left fun c _ => List.ext_getElem (by simp [hlen]) fun r hr _ => ?_
  have hr : r < p.length := by simpa using hr
  simp [Plane.at, List.getD, hr]

/-- The lines in the order of R173: the rows, then the columns. -/
theorem Plane.Square.lines_eq {n : Nat} {p : Plane} (hp : Plane.Square n p) :
    planeLines n p = ((List.range n).map fun r => (List.range n).map fun k => p.at r k) ++
      (List.range n).map fun c => (List.range n).map fun k => p.at k c := by
  rw [planeLines, hp.columns_eq]
  exact congrArg (· ++ _) hp.eq_rows

theorem Plane.Square.line_length {n : Nat} {p : Plane} (hp : Plane.Square n p) :
    ∀ x ∈ planeLines n p, x.length = n := by
  intro x hx
  rw [hp.lines_eq] at hx
  rcases List.mem_append.1 hx with hx | hx
  all_goals
    obtain ⟨_, _, rfl⟩ := List.mem_map.1 hx
    rw [List.length_map, List.length_range]

theorem Plane.Square.lines_length {n : Nat} {p : Plane} (hp : Plane.Square n p) : (planeLines n p).length = n + n := by
  simp [hp.lines_eq]

/-- A count over the cells is the sum of the counts of the rows. -/
theorem countP_allCells (n : Nat) (f : Pos → Bool) :
    (allCells n).countP f = ((List.range n).map fun r => (List.range n).countP fun c => f (r, c)).sum := by
  simp [allCells, List.countP_flatMap, List.countP_map, Function.comp_def]

/-! ## N1 (R174) -/

/-- One pass of the loop of R174. -/
def n1Step (x : List Bool) (acc : Nat × Nat) (k : Nat) : Nat × Nat :=
  if k < x.length ∧ x[k]? = x[k - 1]? then (acc.1, acc.2 + 1) else (acc.1 + runScore acc.2, 1)

theorem n1Loop_eq_foldl (x : List Bool) : n1Loop x = ((List.range' 1 x.length).foldl (n1Step x) (0, 1)).1 := rfl

/-- From the cell after `b` on, in a run of length `len`, the loop adds the scores of the runs of the rest. -/
theorem foldl_n1Step (before : List Bool) (b : Bool) (rest : List Bool) (score len : Nat) :
    ((List.range' (before.length + 1) (rest.length + 1)).foldl (n1Step (before ++ b :: rest)) (score, len)).1 =
      score + runScoresFrom b len rest := by
  induction rest generalizing before b score len with
  | nil => simp [n1Step, runScoresFrom]
  | cons y rest ih =>
    have hstep : n1Step (before ++ b :: y :: rest) (score, len) (before.length + 1) =
        if y = b then (score, len + 1) else (score + runScore len, 1) := by
      simp [n1Step]
    have hline : before ++ b :: y :: rest = (before ++ [b]) ++ y :: rest := by simp
    have hrest := ih (before ++ [b]) y
    rw [← hline, List.length_append, List.length_singleton] at hrest
    rw [List.length_cons, List.range'_succ, List.foldl_cons, hstep, runScoresFrom]
    split
    · next hy => rw [hrest, hy]
    · rw [hrest, Nat.add_assoc]

theorem n1Loop_eq_lineN1 (x : List Bool) : n1Loop x = lineN1 x := by
  cases x with
  | nil => rfl
  | cons b rest =>
    rw [n1Loop_eq_foldl]
    exact (foldl_n1Step [] b rest 0 1).trans (Nat.zero_add _)

theorem runScore_le (len : Nat) : runScore len ≤ len - 2 := by
  unfold runScore
  split <;> omega

/-- A run of length `L` scores at most `L - 2`, so cutting a run in two gains nothing. -/
theorem runScoresFrom_le (b : Bool) (len : Nat) (xs : List Bool) :
    runScoresFrom b len xs ≤ len + xs.length - 2 := by
  induction xs generalizing b len with
  | nil => exact runScore_le len
  | cons y ys ih =>
    rw [runScoresFrom, List.length_cons]
    split
    · have := ih b (len + 1)
      omega
    · have := runScore_le len
      have := ih y 1
      omega

theorem lineN1_le (x : List Bool) : lineN1 x ≤ x.length - 2 := by
  cases x with
  | nil => exact Nat.zero_le _
  | cons b rest =>
    have := runScoresFrom_le b 1 rest
    rw [lineN1, List.length_cons]
    omega

/-! ## N2 (R175) -/

/-- The 2 by 2 position with its upper left cell at `q` is uniform. -/
def uniformAt (p : Plane) (q : Pos) : Bool :=
  p.at q.1 q.2 == p.at q.1 (q.2 + 1) && p.at q.1 q.2 == p.at (q.1 + 1) q.2 &&
    p.at q.1 q.2 == p.at (q.1 + 1) (q.2 + 1)

/-- A count over `0 .. k` is the first position and the count over the rest. -/
theorem countP_range_succ (k : Nat) (f : Nat → Bool) :
    (List.range (k + 1)).countP f = (if f 0 then 1 else 0) + (List.range k).countP fun i => f (i + 1) := by
  rw [List.range_succ_eq_map, List.countP_cons, List.countP_map, Nat.add_comm]
  rfl

theorem rowPairN2_eq_countP (x y : List Bool) (h : x.length = y.length) :
    rowPairN2 x y = 3 * (List.range (x.length - 1)).countP fun c =>
      x.getD c false == x.getD (c + 1) false && x.getD c false == y.getD c false &&
        x.getD c false == y.getD (c + 1) false := by
  induction x generalizing y with
  | nil => simp [rowPairN2]
  | cons a xs ih =>
    match xs, y, h with
    | [], _, _ => simp [rowPairN2]
    | b :: xs, c :: d :: ys, h =>
      have hrest := ih (d :: ys) (by simpa using h)
      simp only [List.length_cons, Nat.add_sub_cancel] at hrest ⊢
      rw [rowPairN2, hrest, countP_range_succ]
      simp only [List.getD_cons_zero, List.getD_cons_succ, Bool.and_eq_true, beq_iff_eq, and_assoc]
      split <;> omega

theorem planeN2_eq_sum (p : Plane) :
    planeN2 p = ((List.range (p.length - 1)).map fun r => rowPairN2 (p.getD r []) (p.getD (r + 1) [])).sum := by
  induction p with
  | nil => rfl
  | cons x rows ih =>
    cases rows with
    | nil => rfl
    | cons y rest =>
      rw [planeN2, ih]
      simp [List.range_succ_eq_map, Function.comp_def]

theorem Plane.Square.n2_eq {n : Nat} {p : Plane} (hp : Plane.Square n p) :
    planeN2 p = 3 * (allCells (n - 1)).countP (uniformAt p) := by
  obtain ⟨hlen, hrows⟩ := hp
  have hrow {r : Nat} (hr : r < n) : (p.getD r []).length = n := by
    have hr : r < p.length := hlen ▸ hr
    simpa [List.getD, hr] using hrows _ (List.getElem_mem hr)
  rw [planeN2_eq_sum, hlen, countP_allCells, ← List.sum_map_mul_left]
  refine congrArg List.sum (List.map_congr_left fun r hr => ?_)
  have hr : r + 1 < n := by have := List.mem_range.1 hr; omega
  rw [rowPairN2_eq_countP _ _ ((hrow (by omega)).trans (hrow hr).symm), hrow (by omega)]
  rfl

/-! ## N3 (R176) -/

/-- The 11 cells of a line from `s` on are `P1` or `P2`. -/
def finderLikeAt (x : List Bool) (s : Nat) : Bool :=
  (x.drop s).take 11 == finderLike1 || (x.drop s).take 11 == finderLike2

/-- Only the positions whose 11 cells lie in the line can match. -/
theorem lineN3_eq_countP (x : List Bool) : lineN3 x = 40 * (List.range (x.length - 10)).countP (finderLikeAt x) := by
  induction x with
  | nil => rfl
  | cons a xs ih =>
    rw [lineN3, ih, List.length_cons]
    by_cases hlong : 10 ≤ xs.length
    · obtain ⟨k, hk⟩ : ∃ k, xs.length = k + 10 := ⟨xs.length - 10, by omega⟩
      have hhead : finderLikeAt (a :: xs) 0 = true ↔
          (a :: xs).take 11 = finderLike1 ∨ (a :: xs).take 11 = finderLike2 := by
        simp [finderLikeAt]
      rw [hk, show k + 10 + 1 - 10 = k + 1 by omega, Nat.add_sub_cancel, countP_range_succ]
      simp only [hhead]
      change _ + _ = 40 * (_ + (List.range k).countP (finderLikeAt xs))
      split <;> omega
    · have hshort {y : List Bool} (hy : y.length = 11) : (a :: xs).take 11 ≠ y := fun h => by
        have hlen := congrArg List.length h
        rw [List.length_take, List.length_cons] at hlen
        omega
      rw [if_neg (not_or.2 ⟨hshort rfl, hshort rfl⟩), show xs.length - 10 = 0 by omega,
        show xs.length + 1 - 10 = 0 by omega]
      rfl

theorem lineN3_le (x : List Bool) : lineN3 x ≤ 40 * (x.length - 10) := by
  have hcount := List.countP_le_length (p := finderLikeAt x) (l := List.range (x.length - 10))
  rw [List.length_range] at hcount
  exact lineN3_eq_countP x ▸ Nat.mul_le_mul_left 40 hcount

/-! ## The dark cells (R177) -/

theorem Plane.Square.dark_eq {n : Nat} {p : Plane} (hp : Plane.Square n p) :
    planeDark p = (allCells n).countP fun q => p.at q.1 q.2 := by
  have hrow (r : Nat) : (planeRow n p r).countP id = (List.range n).countP fun c => p.at r c := by
    simp [planeRow, List.countP_map]
  rw [planeDark, countP_allCells]
  conv_lhs => rw [hp.eq_rows]
  simp [List.map_map, Function.comp_def, hrow]

/-- N4 with the distance from one half as an absolute value (R177). -/
theorem ratioN4_eq (dark total : Nat) :
    ratioN4 dark total = 10 * (|20 * (dark : Int) - 10 * (total : Int)|.toNat / total) := by
  rw [ratioN4, Int.abs_eq_natAbs, Int.toNat_natCast]

/-! ## The four rules and their sum -/

/-- Settles O50: each rule is a sum over lines or a count of positions. -/
theorem penaltyRules : Obligations.PenaltyRules := by
  intro n p hp
  refine ⟨⟨?_, ?_⟩, hp.n2_eq, hp.dark_eq, ratioN4_eq _ _, rfl⟩
  · rw [← hp.lines_eq, funext n1Loop_eq_lineN1]
    rfl
  · rw [← hp.lines_eq]
    refine congrArg List.sum (List.map_congr_left fun x hx => ?_)
    rw [lineN3_eq_countP, hp.line_length x hx]
    rfl

/-! ## The bounds (R181) -/

/-- What one line scores at most, all lines score at most twice the side times that. -/
theorem Plane.Square.sum_lines_le {n : Nat} {p : Plane} (hp : Plane.Square n p) {f : List Bool → Nat} {b : Nat}
    (hf : ∀ x, x.length = n → f x ≤ b) : ((planeLines n p).map f).sum ≤ 2 * n * b := by
  have hsum : ((planeLines n p).map f).sum ≤ ((planeLines n p).map f).length • b := by
    refine List.sum_le_card_nsmul _ _ fun y hy => ?_
    obtain ⟨x, hx, rfl⟩ := List.mem_map.1 hy
    exact hf x (hp.line_length x hx)
  rwa [List.length_map, hp.lines_length, smul_eq_mul, ← Nat.two_mul] at hsum

theorem countP_allCells_le (n : Nat) (f : Pos → Bool) : (allCells n).countP f ≤ n * n :=
  allCells_length n ▸ List.countP_le_length

/-- The dark share is at most 50% off one half, which is ten steps of 5%. -/
theorem ratioN4_le {dark total : Nat} (h : dark ≤ total) : ratioN4 dark total ≤ 100 := by
  have hsteps : ((20 * dark : Int) - 10 * total).natAbs / total ≤ 10 := Nat.div_le_of_le_mul (by omega)
  unfold ratioN4
  omega

/-- Settles O51: the total is bounded by the sum of the four bounds at side 177. -/
theorem penaltyBounds : Obligations.PenaltyBounds := by
  intro n p hmin hmax hp
  have hn1 : (scorePlane n p).n1 ≤ 2 * n * (n - 2) := hp.sum_lines_le fun x hx => hx ▸ lineN1_le x
  have hn2 : (scorePlane n p).n2 ≤ 3 * (n - 1) * (n - 1) := by
    rw [Nat.mul_assoc]
    exact hp.n2_eq.trans_le (Nat.mul_le_mul_left 3 (countP_allCells_le _ _))
  have hn3 : (scorePlane n p).n3 ≤ 40 * (2 * n * (n - 10)) := by
    rw [Nat.mul_left_comm]
    exact hp.sum_lines_le fun x hx => hx ▸ lineN3_le x
  have hdark : (scorePlane n p).dark ≤ n * n := hp.dark_eq.trans_le (countP_allCells_le _ _)
  have hn4 : (scorePlane n p).n4 ≤ 100 := ratioN4_le hdark
  refine ⟨hn1, hn2, hn3, hn4, ?_, hdark⟩
  have h1 : 2 * n * (n - 2) ≤ 2 * 177 * 175 := Nat.mul_le_mul (by omega) (by omega)
  have h2 : 3 * (n - 1) * (n - 1) ≤ 3 * 176 * 176 := Nat.mul_le_mul (by omega) (by omega)
  have h3 : 2 * n * (n - 10) ≤ 2 * 177 * 167 := Nat.mul_le_mul (by omega) (by omega)
  unfold Score.total
  omega

end Sys2Proof.Machine
end

section
/-! The system, configuration and access commands (44_system.md R200 to R203, R205, R206): each is one response, or one
check of its own before it. -/

namespace Sys2Proof.Machine

/-! ## `NOP` and `SRESET` -/

theorem registersAtReset_resetRegisters (s : State) : s.resetRegisters.RegistersAtReset := by
  simp [State.RegistersAtReset]

/-- Settles O54: both are ungated responses of 0, `SRESET` from the state with its registers reset. -/
theorem nopAndSreset : Obligations.NopAndSreset := fun s =>
  ⟨rfl, respond_eq 0 s, rfl, s.resetRegisters.answered 0, respond_eq 0 s.resetRegisters,
    registersAtReset_resetRegisters s, rfl, rfl, rfl, rfl, rfl, rfl⟩

/-! ## `SETVER` and `SETECL` -/

/-- The state after `SETVER a` (44_system.md R202). -/
def setVersion (a : Nat) (s : State) : State :=
  { s with version := BitVec.ofNat 6 a, size := BitVec.ofNat 8 (4 * a + 17) }

theorem exec_setver {s : State} (a : Nat) (hp : s.phase = .idle) :
    exec (.setver a) s =
      if a < 1 ∨ 40 < a then .next (s.faulted .invalidParameter (encode (.setver a)))
      else .next ((setVersion a s).answered (setVersion a s).size.toNat) := by
  rw [← raise_eq, ← respond_byte]
  exact exec_of_gated rfl hp

/-- The side of every version fits `SIZE`. -/
theorem setVersion_size_toNat (s : State) {a : Nat} (ha : a ≤ 40) : (setVersion a s).size.toNat = 4 * a + 17 :=
  Nat.mod_eq_of_lt (by omega)

/-- Settles O55: the range of the version is the one check of `SETVER`. -/
theorem setVersionEffect : Obligations.SetVersionEffect := by
  refine fun a s => ⟨rfl, commonOutcomes_of_gated rfl, fun hp => ⟨fun h1 h40 => ?_, fun ha => ?_⟩⟩
  · rw [exec_setver a hp, if_neg (by omega), setVersion_size_toNat s h40]
    rfl
  · rw [exec_setver a hp, if_pos ha]

theorem exec_setecl_level {s : State} {a : Nat} {e : Level} (hp : s.phase = .idle) (he : levelOf? a = some e) :
    exec (.setecl a) s = .next ({ s with ecl := e, eclv := true }.answered 0) := by
  have hbody : exec (.setecl a) s = gated (.setecl a) s (respond 0 { s with ecl := e, eclv := true }) := by
    simp only [exec, execSetecl, he]
  exact exec_of_gated_respond hbody hp

theorem exec_setecl_none {s : State} {a : Nat} (hp : s.phase = .idle) (ha : levelOf? a = none) :
    exec (.setecl a) s = .next (s.faulted .invalidParameter (encode (.setecl a))) := by
  have hbody : exec (.setecl a) s = gated (.setecl a) s (raise .invalidParameter (encode (.setecl a)) s) := by
    simp only [exec, execSetecl, ha]
  exact (exec_of_gated hbody hp).trans (raise_eq _ _ s)

theorem levelOf?_eq_none {a : Nat} (ha : 3 < a) : levelOf? a = none := by
  unfold levelOf?
  split
  case h_5 => rfl
  all_goals omega

/-- Settles O56: the operand names a level or it faults. -/
theorem setLevelEffect : Obligations.SetLevelEffect := by
  refine fun s => ⟨fun a => ⟨rfl, commonOutcomes_of_gated rfl⟩, fun hp => ⟨?_, fun a ha => ?_⟩⟩
  · have hlevels : ∀ e ∈ [(0, Level.l), (1, .m), (2, .q), (3, .h)], levelOf? e.1 = some e.2 := by decide
    exact fun e he => exec_setecl_level hp (hlevels e he)
  · exact exec_setecl_none hp (levelOf?_eq_none ha)

/-! ## `CWPUSH` and `CWRD` -/

theorem exec_cwpush {s : State} (a : Byte) (hp : s.phase.code ≤ 5) :
    exec (.cwpush a) s =
      if s.cwlen.toNat = 3706 then .next (s.faulted .rangeError (encode (.cwpush a)))
      else .next ((pushCodeword a s).answered (pushCodeword a s).cwlen.toNat) := by
  have hne : s.phase ≠ .error := fun he => absurd hp (by rw [he]; decide)
  rw [← raise_eq, ← valueOf_toNat (by decide) (pushCodeword a s).cwlen, ← respond_eq]
  exact gated_of_accepted hne (decide_eq_true hp)

/-- Every count up to a full buffer fits `CWLEN`. -/
theorem pushCodeword_cwlen_toNat {s : State} (a : Byte) (h : s.cwlen.toNat < 3706) :
    (pushCodeword a s).cwlen.toNat = s.cwlen.toNat + 1 :=
  Nat.mod_eq_of_lt (by omega)

theorem pushCodeword_codeword {s : State} (h : Memory.wf unwrittenCodeword s.cwbuf = true) (a : Byte) (k : Nat) :
    (pushCodeword a s).codeword k = if k = s.cwlen.toNat then a else s.codeword k :=
  codeword_setCodeword h s.cwlen.toNat k a

/-- Settles O58: a full buffer is the one check of `CWPUSH`, and `pushCodeword` is its effect. -/
theorem codewordPush : Obligations.CodewordPush := by
  refine fun a s => ⟨rfl, commonOutcomes_of_gated rfl, fun hp => ⟨fun hfull => ?_, fun hroom hwf => ?_⟩⟩
  · rw [exec_cwpush a hp, if_pos hfull]
  · have hlen := pushCodeword_cwlen_toNat a hroom
    rw [exec_cwpush a hp, if_neg hroom.ne, hlen]
    exact ⟨_, rfl, rfl, hlen, Memory.write_wf _ _ _ _ hwf, pushCodeword_codeword hwf a⟩

theorem exec_cwrd {s : State} (h : Nat) (he : s.phase ≠ .error) :
    exec (.cwrd h) s = if s.cwlen.toNat ≤ h then .next (s.faulted .rangeError (encode (.cwrd h)))
      else .next (s.answered (s.codeword h).toNat) := by
  rw [← raise_eq, ← respond_byte]
  exact gated_of_ne_error (fun _ => rfl) he

/-- Settles O59: the index is the one check of `CWRD`. -/
theorem codewordRead : Obligations.CodewordRead := by
  refine fun h s => ⟨rfl, (commonOutcomes_of_gated rfl).1, fun he => ⟨fun hlt => ?_, fun hge => ?_⟩⟩
  · rw [exec_cwrd h he, if_neg (not_le.2 hlt)]
  · rw [exec_cwrd h he, if_pos hge]

end Sys2Proof.Machine
end

section
/-! Faults, refusals and the phase table (60_exceptions.md R222 to R228): `exec_outcome` says how each command ends,
and each statement here reads one of these endings. -/

namespace Sys2Proof.Machine

/-! ## The phase check -/

/-- A command whose phase is not listed raises `SequenceError` outside phase `ERROR`. -/
theorem exec_sequenceError {i : Instr} {s : State} (he : s.phase ≠ .error) (hp : s.phase.code ∉ acceptedCodes i) :
    exec i s = .next (s.faulted .sequenceError (encode i)) := by
  have hout := exec_outcome i s
  generalize exec i s = r at hout ⊢
  cases hout with
  | sequence => rfl
  | refused herr => exact absurd herr he
  | own _ hacc | success hacc => exact absurd hacc hp

/-- A command that phase `ERROR` does not accept is refused there. -/
theorem exec_refused {i : Instr} {s : State} (he : s.phase = .error) (hp : 15 ∉ acceptedCodes i) :
    exec i s = .next s.refusedNow := by
  have hout := exec_outcome i s
  generalize exec i s = r at hout ⊢
  cases hout with
  | refused => rfl
  | sequence hne | own hne => exact absurd he hne
  | success hacc =>
    rw [he] at hacc
    exact absurd hacc hp

/-- The commands that phase `ERROR` accepts (60_exceptions.md R225). -/
theorem accepted_in_error {i : Instr} (h : 15 ∈ acceptedCodes i) : i = .nop ∨ i = .sreset ∨ ∃ a, i = .rdreg a := by
  cases i with
  | nop => exact .inl rfl
  | sreset => exact .inr (.inl rfl)
  | rdreg a => exact .inr (.inr ⟨a, rfl⟩)
  | setver | setecl | gfadd | gfmul | gfdiv | gfexp | gflog | rsinit | rsdata | rsrd | rsgen | mxinit | mxfind | mxtime
  | mxalign | mxrsv | mxdata | mxbuild | mskeval | msksel | mskforce | final | cwpush | cwrd | gridrd =>
    simp [acceptedCodes] at h

/-- Settles O10: a command that phase `ERROR` accepts and that is neither `NOP` nor `SRESET` is `RDREG`, which is
refused for an undefined number; every other command is refused by `exec_refused`. -/
theorem errorPhaseRefuses : Obligations.ErrorPhaseRefuses := by
  refine fun s he => ⟨respond_eq 0 s, ⟨_, respond_eq 0 _, registersAtReset_resetRegisters s, rfl⟩,
    fun a v => exec_rdreg_some, fun i hnop hsreset hreg => ?_, fun w rest hp hd => ?_⟩
  · by_cases hacc : 15 ∈ acceptedCodes i
    · obtain rfl | rfl | ⟨a, rfl⟩ := accepted_in_error hacc
      · exact absurd rfl hnop
      · exact absurd rfl hsreset
      · rw [exec_rdreg_none (hreg a rfl), if_pos he]
    · exact exec_refused he hacc
  · rw [step_not_command hp hd, if_pos he]

/-- Settles O12: a word with `E = 0` is the response of a success, whose phases `exec_outcome` gives. -/
theorem phaseTable : Obligations.PhaseTable := by
  refine fun i s => ⟨exec_sequenceError, exec_refused, fun t w h hresp hmsb => ?_⟩
  have absurd_msb {P : Prop} (e : Option ErrorName) (hw : faultResponse (errCode e) :: s.responses = w :: s.responses) :
      P := by
    obtain ⟨rfl, _⟩ := List.cons.inj hw
    exact absurd ((faultResponse_msb e).symm.trans hmsb) (by decide)
  have hout := exec_outcome i s
  rw [h] at hout
  cases hout with
  | refused => exact absurd_msb s.err hresp
  | sequence => exact absurd_msb (some .sequenceError) hresp
  | own _ _ e => exact absurd_msb (some e) hresp
  | success hp _ _ _ _ hc => exact ⟨hp, hc⟩

/-! ## Faults -/

/-- A command that enters phase `ERROR` leaves the faulted state, with an error of its own where its phase is listed. -/
theorem exec_fault {i : Instr} {s t : State} (he : s.phase ≠ .error) (h : exec i s = .next t)
    (ht : t.phase = .error) :
    ∃ e, t = s.faulted e (encode i) ∧ (s.phase.code ∈ acceptedCodes i → e ∈ ownErrors i) := by
  have hout := exec_outcome i s
  rw [h] at hout
  cases hout with
  | refused herr => exact absurd herr he
  | sequence _ hp => exact ⟨_, rfl, fun hacc => absurd hacc hp⟩
  | own _ _ e hown => exact ⟨e, rfl, fun _ => hown⟩
  | success _ _ _ _ _ hc => exact absurd (error_of_nextCode hc ht).1 he

/-- Settles O11: `exec_fault` for a command, `step_illegalCommand` for a word that is none. -/
theorem faultChangesNothingElse : Obligations.FaultChangesNothingElse := by
  refine ⟨fun i s t he h ht => ?_, fun w s rest he hp hd => step_illegalCommand hd hp he⟩
  obtain ⟨e, hfault, _⟩ := exec_fault he h ht
  exact ⟨e, hfault⟩

/-- Settles O15: the error in `ERR` is the one `exec_fault` gives. -/
theorem faultTable : Obligations.FaultTable := by
  intro i s t e he hacc h ht herr
  obtain ⟨e', rfl, hown⟩ := exec_fault he h ht
  obtain rfl : e' = e := Option.some.inj herr
  exact hown hacc

/-- A success leaves `ERR` alone or, as `SRESET`, clears it. -/
theorem Effect.err_eq {s t : State} {i : Instr} (h : Effect s i t) : t.err = s.err ∨ t.err = none := by
  cases h with
  | reset => exact .inr rfl
  | unchanged | setVersion | setLevel | startBlock | feedBlock | alloc | finders | timing | alignment | reserve | data
  | build | evaluate | select | force | final | push => exact .inl rfl

/-- A step puts neither of the host's errors into `ERR`. -/
theorem step_err_ne {e : ErrorName} (he : e = .unencodableInput ∨ e = .dataTooLarge) {s t : State}
    (hs : s.err ≠ some e) (h : step s = .next t) : t.err ≠ some e := by
  refine step_keeps (P := fun u => u.err ≠ some e) (fun _ _ _ hu => hu) (fun _ _ => nofun)
    (fun u e' w _ hraised _ herr => ?_) (fun u v i heff hu => ?_) hs h
  · obtain rfl : e' = e := Option.some.inj herr
    exact he.elim hraised.1 hraised.2
  · obtain hsame | hnone := heff.err_eq
    · exact hsame ▸ hu
    · rw [hnone]
      nofun

/-- Settles O14: a code that is in `ERR` after a step and was not before would contradict `step_err_ne`. -/
theorem hostErrorsNeverRaised : Obligations.HostErrorsNeverRaised := fun _ _ h =>
  ⟨fun ht => by_contra fun hs => step_err_ne (.inl rfl) hs h ht,
    fun ht => by_contra fun hs => step_err_ne (.inr rfl) hs h ht⟩

/-! ## The order of the checks -/

/-- Settles O16: in each pair the check that comes first decides. -/
theorem checkOrder : Obligations.CheckOrder := by
  refine fun s => ⟨fun hp => ?_, fun he _ hq => step_illegalCommand (by decide) hq he, fun he hn => ?_, fun hp hv => ?_⟩
  · exact exec_sequenceError (by simp [hp]) (by simp [hp, acceptedCodes, Phase.code])
  · exact (exec_rsrd 40 he).trans (if_pos hn)
  · exact exec_mxbuild_unconfigured hp (not_configured (.inl hv))

end Sys2Proof.Machine
end

section
/-! Reset and the totality of a step (70_reset_and_hazards.md R250, R251, R262). -/

namespace Sys2Proof.Machine

theorem step_idle {s : State} (hp : s.pending = []) : step s = .next s := by
  simp only [step, hp]

theorem step_reset {s : State} {rest : List HostAction} (hp : s.pending = .reset :: rest) :
    step s = .next (s.withPending rest).resetRegisters := by
  simp only [step, hp, State.withPending]

theorem step_illegal {s : State} {w : Word} {rest : List HostAction} (hp : s.pending = .command w :: rest)
    (hd : decode w = none) : step s = illegalCommand w (s.withPending rest) := by
  simp only [step, hp, hd, State.withPending]

/-- Settles O6: `step_reset`, since `resetRegisters` writes every register and no array. -/
theorem hardwareReset : Obligations.HardwareReset := fun s rest hp =>
  ⟨_, step_reset hp, registersAtReset_resetRegisters (s.withPending rest), rfl, rfl, rfl, rfl, rfl, rfl⟩

/-- Settles O9: of the four kinds of step, a command answers by O8 and a word that is none by `raiseOrRefuse_eq`. -/
theorem everyStepAnswers : Obligations.EveryStepAnswers := by
  intro s
  have hstep := step_stepped s
  generalize step s = r at hstep ⊢
  cases hstep with
  | idle | reset => exact ⟨_, rfl⟩
  | illegal => exact ⟨_, raiseOrRefuse_eq _ _ _⟩
  | @command w rest i _ _ =>
    obtain ⟨t, _, hnext, _⟩ := oneResponsePerCommand i (s.withPending rest)
    exact ⟨t, hnext⟩

/-- After reset there is no version, block, codeword or fault, and the memories are empty. -/
theorem State.Inv.reset : State.reset.Inv where
  err_iff := by decide
  err_raised := by decide
  ephase_ne := by decide
  version_le := by decide
  size_eq := by decide
  configured := by decide
  nsym_le := by decide
  block_le := by decide
  gen_eq := fun hn => absurd rfl hn
  rem_zero := fun hn => absurd rfl hn
  cwlen_le := by decide
  cwbuf_wf := rfl
  cwbuf_below := rfl
  grid_wf := rfl
  grid_below := by decide
  mask_zero := fun _ => rfl
  penv_zero := fun _ => rfl
  pen_eq := fun hp => absurd hp (by decide)
  dcap_eq := by decide

/-- Settles O19: `State.Inv.reset`, and phase `IDLE` has no grid. -/
theorem resetMeetsInvariants : Obligations.ResetMeetsInvariants :=
  ⟨State.Inv.reset, gridInv_of_phase (.inl rfl)⟩

end Sys2Proof.Machine
end

section
/-! Two states that differ in nothing but the parts of the arrays that reset leaves unspecified
(70_reset_and_hazards.md R250): every command reads the readable parts alone, so it takes the same branch in both, gives
the same response and leaves states that agree again. -/

namespace Sys2Proof.Machine

/-! ## States that agree -/

/-- Agreeing states differ in their arrays alone. -/
theorem State.Agree.exists_arrays {s t : State} (h : s.Agree t) :
    ∃ gen rem cwbuf grid, t = { s with gen := gen, rem := rem, cwbuf := cwbuf, grid := grid } :=
  ⟨t.gen, t.rem, t.cwbuf, t.grid,
    congrArg (fun u : State => { u with gen := t.gen, rem := t.rem, cwbuf := t.cwbuf, grid := t.grid }) h.registers⟩

/-- A function that looks at no array has the same value in agreeing states. -/
theorem State.Agree.same {β : Type} {s t : State} (h : s.Agree t) (f : State → β)
    (hf : ∀ (u : State) gen rem cwbuf grid,
      f { u with gen := gen, rem := rem, cwbuf := cwbuf, grid := grid } = f u := by intros; rfl) : f s = f t := by
  obtain ⟨gen, rem, cwbuf, grid, rfl⟩ := h.exists_arrays
  exact (hf s gen rem cwbuf grid).symm

theorem State.Agree.withPending {s t : State} (h : s.Agree t) (q : List HostAction) :
    (s.withPending q).Agree (t.withPending q) :=
  { h with registers := congrArg (State.withPending · q) h.registers }

/-- After reset no part of an array can be read, so states that were reset agree when their ports do. -/
theorem agree_resetRegisters {s t : State} (hq : s.pending = t.pending) (hr : s.responses = t.responses) :
    s.resetRegisters.Agree t.resetRegisters where
  registers := by simp only [State.resetRegisters, hq, hr]
  gen_eq := fun hn => absurd rfl hn
  rem_eq := fun hn => absurd rfl hn
  cwbuf_eq := fun k hk => absurd hk k.not_lt_zero
  grid_eq := fun h1 => absurd h1 (by decide : ¬1 ≤ Phase.code .idle)

theorem State.Agree.resetRegisters {s t : State} (h : s.Agree t) : s.resetRegisters.Agree t.resetRegisters :=
  agree_resetRegisters (h.same State.pending) (h.same State.responses)

/-- A write of the grid, which may also change `DCAP` and `MASK`. -/
theorem State.Agree.writeGrid {s t : State} (h : s.Agree t) (p : Phase) {d d' : BitVec 15} (hd : d = d')
    {m m' : BitVec 3} (hm : m = m') {g g' : Grid}
    (hg : ∀ r c, r < s.size.toNat → c < s.size.toNat → gridAt g r c = gridAt g' r c) :
    { s with grid := g, phase := p, dcap := d, mask := m }.Agree
      { t with grid := g', phase := p, dcap := d', mask := m' } := by
  subst hd hm
  exact { h with
    registers := congrArg (fun u : State => { u with grid := g, phase := p, dcap := d, mask := m }) h.registers
    grid_eq := fun _ _ => hg }

/-! ## Results that agree -/

/-- Both results are next states, and these agree. -/
inductive AgreeNext : Result → Result → Prop where
  | next {s t : State} (h : s.Agree t) : AgreeNext (.next s) (.next t)

theorem agree_respond {s t : State} (h : s.Agree t) {v v' : Value} (hv : v = v') :
    AgreeNext (respond v s) (respond v' t) := by
  obtain ⟨gen, rem, cwbuf, grid, rfl⟩ := h.exists_arrays
  subst hv
  exact .next { h with registers := rfl }

theorem agree_refuse {s t : State} (h : s.Agree t) : AgreeNext (refuse s) (refuse t) := by
  obtain ⟨gen, rem, cwbuf, grid, rfl⟩ := h.exists_arrays
  exact .next { h with registers := rfl }

/-- A fault leads to phase `ERROR`, where the grid cannot be read. -/
theorem agree_raise {s t : State} (h : s.Agree t) (e : ErrorName) (w : Word) :
    AgreeNext (raise e w s) (raise e w t) := by
  obtain ⟨gen, rem, cwbuf, grid, rfl⟩ := h.exists_arrays
  exact .next { h with registers := rfl, grid_eq := fun _ h8 => absurd h8 (by decide : ¬Phase.code .error ≤ 8) }

theorem agree_ite {c c' : Prop} [Decidable c] [Decidable c'] (hc : c ↔ c') {a a' b b' : Result}
    (ha : c → AgreeNext a a') (hb : ¬c → AgreeNext b b') :
    AgreeNext (if c then a else b) (if c' then a' else b') := by
  by_cases h : c
  · rw [if_pos h, if_pos (hc.1 h)]
    exact ha h
  · rw [if_neg h, if_neg (hc.not.1 h)]
    exact hb h

theorem agree_raiseOrRefuse {s t : State} (h : s.Agree t) (e : ErrorName) (w : Word) :
    AgreeNext (raiseOrRefuse e w s) (raiseOrRefuse e w t) :=
  agree_ite (by rw [h.same State.phase]) (fun _ => agree_refuse h) fun _ => agree_raise h e w

theorem agree_gated {s t : State} (h : s.Agree t) {i : Instr} {b b' : Result}
    (hb : accepted i s.phase = true → AgreeNext b b') : AgreeNext (gated i s b) (gated i t b') :=
  agree_ite (by rw [h.same State.phase]) (fun _ => agree_refuse h) fun _ =>
    agree_ite (by rw [h.same State.phase]) hb fun _ => agree_raise h _ _

/-- A gated command with one check of its own, which decides the same in both states. -/
theorem agree_gated_check {s t : State} (h : s.Agree t) {i : Instr} {c c' : Prop} [Decidable c] [Decidable c']
    (hc : c ↔ c') {e : ErrorName} {b b' : Result} (hb : accepted i s.phase = true → ¬c → AgreeNext b b') :
    AgreeNext (gated i s (if c then raise e (encode i) s else b))
      (gated i t (if c' then raise e (encode i) t else b')) :=
  agree_gated h fun hp => agree_ite hc (fun _ => agree_raise h _ _) (hb hp)

/-! ## Grids with the same cells -/

/-- Two canonical grids with the same cells inside the side `n`. -/
structure SameCells (n : Nat) (g g' : Grid) : Prop where
  left_wf : Memory.wf unwrittenCell g = true
  right_wf : Memory.wf unwrittenCell g' = true
  cell_eq : ∀ r c, r < n → c < n → gridAt g r c = gridAt g' r c

section
variable {n : Nat} {g g' : Grid}

theorem SameCells.setCell (h : SameCells n g g') (r c : Nat) (v : GridCell) :
    SameCells n (setCell g r c v) (setCell g' r c v) := by
  refine ⟨setCell_wf h.left_wf r c v, setCell_wf h.right_wf r c v, fun r' c' hr hc => ?_⟩
  simp only [gridAt, Machine.setCell, Memory.read_write _ _ _ _ _ h.left_wf, Memory.read_write _ _ _ _ _ h.right_wf]
  split
  · rfl
  · exact h.cell_eq r' c' hr hc

theorem SameCells.setfAll (h : SameCells n g g') {cells cells' : List (Pos × ModuleState)} (hcells : cells = cells') :
    SameCells n (setfAll g cells) (setfAll g' cells') := by
  subst hcells
  induction cells generalizing g g' with
  | nil => exact h
  | cons e cells ih => exact ih (h.setCell _ _ _)

/-- A write of `ST` inside the side keeps a flag that both grids share. -/
theorem SameCells.setStAll (h : SameCells n g g') {cells cells' : List (Pos × ModuleState)} (hin : Within n cells)
    (hcells : cells = cells') : SameCells n (setStAll g cells) (setStAll g' cells') := by
  subst hcells
  induction cells generalizing g g' with
  | nil => exact h
  | cons e cells ih =>
    obtain ⟨⟨hr, hc⟩, hrest⟩ := List.forall_mem_cons.1 hin
    have hset : SameCells n (setSt g e.1.1 e.1.2 e.2) (setSt g' e.1.1 e.1.2 e.2) := by
      rw [setSt, setSt, h.cell_eq _ _ hr hc]
      exact h.setCell _ _ _
    exact ih hset hrest

theorem SameCells.countData_eq (h : SameCells n g g') : countData n g = countData n g' :=
  countData_congr fun r c hr hc => by rw [h.cell_eq r c hr hc]

theorem SameCells.path_eq (h : SameCells n g g') : path n g = path n g' :=
  List.filter_congr fun p hp => by
    obtain ⟨hr, hc⟩ := zigzag_within hp
    rw [h.cell_eq _ _ hr hc]

theorem SameCells.gridRows_eq (h : SameCells n g g') : gridRows n g = gridRows n g' :=
  List.map_congr_left fun r hr => List.map_congr_left fun c hc =>
    h.cell_eq r c (List.mem_range.1 hr) (List.mem_range.1 hc)

theorem SameCells.maskFlips_eq (h : SameCells n g g') (m : Nat) : maskFlips m n g = maskFlips m n g' :=
  List.filterMap_congr fun p hp => by
    obtain ⟨hr, hc⟩ := (mem_allCells n p.1 p.2).1 hp
    rw [h.cell_eq _ _ hr hc]

theorem SameCells.applyMask (h : SameCells n g g') (m : Nat) : SameCells n (applyMask m n g) (applyMask m n g') :=
  h.setStAll (maskFlips_within m n g) (h.maskFlips_eq m)

end

/-! ## The effects of the system commands, of the encoder and of the codeword buffer -/

section
variable {s t : State}

/-- In phase `IDLE`, where `SETVER` is accepted, the grid cannot be read. -/
theorem State.Agree.setVersion (h : s.Agree t) (hp : s.phase = .idle) (a : Nat) :
    (setVersion a s).Agree (setVersion a t) :=
  { h with
    registers := congrArg (Machine.setVersion a) h.registers
    grid_eq := fun h1 => absurd (hp ▸ h1 : 1 ≤ Phase.code .idle) (by decide) }

theorem State.Agree.setLevel (h : s.Agree t) (e : Level) :
    { s with ecl := e, eclv := true }.Agree { t with ecl := e, eclv := true } :=
  { h with registers := congrArg (fun u : State => { u with ecl := e, eclv := true }) h.registers }

/-- `RSINIT` writes every entry of `GEN` and `REM`. -/
theorem State.Agree.startBlock (h : s.Agree t) (a : Nat) : (startBlock a s).Agree (startBlock a t) :=
  { h with
    registers := congrArg (Machine.startBlock a) h.registers
    gen_eq := fun _ _ _ => rfl
    rem_eq := fun _ _ _ => rfl }

/-- `RSDATA` computes the entries of `REM` below `NSYM` from these and from `GEN[1..NSYM]`. -/
theorem State.Agree.feedBlock (h : s.Agree t) (hs : s.Inv) (hn : s.nsym ≠ 0) (a : Byte) :
    (feedBlock a s).Agree (feedBlock a t) := by
  refine { h with
    registers := congrArg (fun u : State => { u with
      rem := remAfter s a, dlen := BitVec.ofNat 8 (u.dlen.toNat + 1) }) h.registers
    rem_eq := fun _ k (hk : k < s.nsym.toNat) => ?_ }
  have h30 : k < 30 := hk.trans_le hs.nsym_le
  have hshift : k + 1 < s.nsym.toNat → s.remAt (k + 1) = t.remAt (k + 1) := h.rem_eq hn (k + 1)
  rw [feedBlock_remAt _ a h30, feedBlock_remAt _ a h30, ← h.same State.nsym, if_pos hk, if_pos hk,
    h.gen_eq hn (k + 1) hk, h.rem_eq hn 0 (k.zero_le.trans_lt hk), if_ctx_congr Iff.rfl hshift fun _ => rfl]

theorem State.Agree.pushCodeword (h : s.Agree t) (hs : s.Inv) (ht : t.Inv) (hl : s.cwlen.toNat ≠ 3706) (a : Byte) :
    (pushCodeword a s).Agree (pushCodeword a t) := by
  have hlen := pushCodeword_cwlen_toNat a (hs.cwlen_le.lt_of_ne hl)
  refine { h with
    registers := congrArg (fun u : State => { u with
      cwbuf := (Machine.pushCodeword a s).cwbuf, cwlen := BitVec.ofNat 12 (u.cwlen.toNat + 1) }) h.registers
    cwbuf_eq := fun k hk => ?_ }
  rw [pushCodeword_codeword hs.cwbuf_wf, pushCodeword_codeword ht.cwbuf_wf, ← h.same State.cwlen]
  exact if_ctx_congr Iff.rfl (fun _ => rfl) fun hne => h.cwbuf_eq k (by omega)

/-! ## The effects of the matrix builder -/

/-- In the phases that have a grid, agreeing states have the same cells. -/
theorem State.Agree.sameCells (h : s.Agree t) (hs : s.Inv) (ht : t.Inv) {p : Phase} (hp : s.phase = p)
    (h1 : 1 ≤ p.code) (h8 : p.code ≤ 8) : SameCells s.size.toNat s.grid t.grid :=
  ⟨hs.grid_wf, ht.grid_wf, h.grid_eq (hp ▸ h1) (hp ▸ h8)⟩

/-- `MXINIT` sets every cell, whatever the grid held. -/
theorem sameCells_allocGrid (h : s.Agree t) (hs : s.Inv) (ht : t.Inv) :
    SameCells s.size.toNat (allocGrid s).grid (allocGrid t).grid := by
  refine ⟨allocGrid_wf hs.grid_wf, allocGrid_wf ht.grid_wf, fun r c hr hc => ?_⟩
  have hmem : ∃ p ∈ allCells s.size.toNat, cellAddr p.1 p.2 = cellAddr r c :=
    ⟨(r, c), (mem_allCells _ r c).2 ⟨hr, hc⟩, rfl⟩
  calc (allocGrid s).cell r c
    _ = ⟨.unset, false⟩ := by rw [allocGrid_cell hs.grid_wf, if_pos hmem]
    _ = (allocGrid t).cell r c := by rw [allocGrid_cell ht.grid_wf, ← h.same State.size, if_pos hmem]

theorem State.Agree.allocGrid (h : s.Agree t) (hs : s.Inv) (ht : t.Inv) : (allocGrid s).Agree (allocGrid t) :=
  h.writeGrid .alloc (h.same State.dcap) (h.same State.mask) (sameCells_allocGrid h hs ht).cell_eq

theorem State.Agree.writePattern (h : s.Agree t) (hg : SameCells s.size.toNat s.grid t.grid)
    {cells cells' : List (Pos × ModuleState)} (hcells : cells = cells') (p : Phase) :
    { s with grid := setfAll s.grid cells, phase := p }.Agree { t with grid := setfAll t.grid cells', phase := p } :=
  h.writeGrid p (h.same State.dcap) (h.same State.mask) (hg.setfAll hcells).cell_eq

theorem State.Agree.reserveAreas (h : s.Agree t) (hg : SameCells s.size.toNat s.grid t.grid) :
    (reserveAreas s).Agree (reserveAreas t) := by
  obtain ⟨g, d, hsnext, hgrid, hdcap⟩ := reserveAreas_eq s
  obtain ⟨g', d', htnext, hgrid', hdcap'⟩ := reserveAreas_eq t
  have hcells : SameCells s.size.toNat g g' := by
    rw [hgrid, hgrid', ← h.same State.version, ← h.same State.size]
    exact hg.setfAll rfl
  have hcount : d = d' := by rw [hdcap, hdcap', ← h.same State.size, hcells.countData_eq]
  rw [hsnext, htnext]
  exact h.writeGrid .reserved hcount (h.same State.mask) hcells.cell_eq

/-- The patterns of `MXBUILD` change the grid, `DCAP` and the phase alone. -/
theorem buildPatterns_eq (s : State) : ∃ g d, buildPatterns s = { s with grid := g, dcap := d, phase := .reserved } := by
  obtain ⟨g, d, hnext, _, _⟩ := reserveAreas_eq (placeAlignment (placeTiming (placeFinders (allocGrid s))))
  exact ⟨g, d, hnext⟩

theorem buildPatterns_size (s : State) : (buildPatterns s).size = s.size := by
  obtain ⟨g, d, hnext⟩ := buildPatterns_eq s
  rw [hnext]

theorem sameCells_buildPatterns (h : s.Agree t) (hs : s.Inv) (ht : t.Inv) :
    SameCells s.size.toNat (buildPatterns s).grid (buildPatterns t).grid := by
  rw [buildPatterns_grid, buildPatterns_grid, ← h.same State.version, ← h.same State.size]
  exact (sameCells_allocGrid h hs ht).setfAll rfl

theorem State.Agree.buildPatterns (h : s.Agree t) (hs : s.Inv) (ht : t.Inv) :
    (buildPatterns s).Agree (buildPatterns t) := by
  have hcells := sameCells_buildPatterns h hs ht
  have hcount : (Machine.buildPatterns s).dcap = (Machine.buildPatterns t).dcap := by
    refine BitVec.eq_of_toNat_eq ?_
    rw [buildPatterns_dcap_toNat hs.size_le, buildPatterns_dcap_toNat ht.size_le, ← h.same State.size,
      hcells.countData_eq]
  obtain ⟨g, d, hsnext⟩ := buildPatterns_eq s
  obtain ⟨g', d', htnext⟩ := buildPatterns_eq t
  rw [hsnext, htnext] at hcells hcount ⊢
  exact h.writeGrid .reserved hcount (h.same State.mask) hcells.cell_eq

theorem State.Agree.dataModule_eq (h : s.Agree t) (k : Nat) : dataModule s k = dataModule t k := by
  rw [dataModule, dataModule, ← h.same State.cwlen]
  exact if_ctx_congr Iff.rfl (fun hk => by rw [h.cwbuf_eq (k / 8) (by omega)]) fun _ => rfl

theorem State.Agree.dataCells_eq (h : s.Agree t) (hg : SameCells s.size.toNat s.grid t.grid) :
    dataCells s = dataCells t := by
  simp only [dataCells, ← h.same State.size, ← h.same State.dcap, hg.path_eq, h.dataModule_eq]

theorem State.Agree.placeData (h : s.Agree t) (hg : SameCells s.size.toNat s.grid t.grid) :
    (placeData s).Agree (placeData t) :=
  h.writeGrid .placed (h.same State.dcap) (h.same State.mask)
    (hg.setStAll (dataCells_within s) (h.dataCells_eq hg)).cell_eq

/-! ## The effects of the mask scorer and selector -/

theorem State.Agree.maskScore_eq (h : s.Agree t) (hg : SameCells s.size.toNat s.grid t.grid) :
    maskScore s = maskScore t := by
  funext m
  rw [maskScore, maskScore, ← h.same State.size, hg.gridRows_eq]

theorem State.Agree.selectedMask_eq (h : s.Agree t) (hg : SameCells s.size.toNat s.grid t.grid) :
    selectedMask s = selectedMask t := by
  rw [selectedMask, selectedMask, h.maskScore_eq hg]

theorem State.Agree.markPenalty (h : s.Agree t) (hg : SameCells s.size.toNat s.grid t.grid) (a : Nat) :
    (markPenalty a s).Agree (markPenalty a t) := by
  have hscore := h.maskScore_eq hg
  obtain ⟨gen, rem, cwbuf, grid, rfl⟩ := h.exists_arrays
  rw [Machine.markPenalty, Machine.markPenalty, ← hscore]
  exact { h with registers := rfl }

theorem State.Agree.markAllPenalties (h : s.Agree t) (hg : SameCells s.size.toNat s.grid t.grid) :
    (markAllPenalties s).Agree (markAllPenalties t) := by
  have hscore := h.maskScore_eq hg
  have hmask := h.selectedMask_eq hg
  obtain ⟨gen, rem, cwbuf, grid, rfl⟩ := h.exists_arrays
  rw [Machine.markAllPenalties, Machine.markAllPenalties, ← hmask, ← hscore]
  exact { h with registers := rfl }

theorem State.Agree.chooseMask (h : s.Agree t) (hg : SameCells s.size.toNat s.grid t.grid) {m m' : Nat}
    (hm : m = m') : (chooseMask m s).Agree (chooseMask m' t) := by
  subst hm
  rw [Machine.chooseMask, Machine.chooseMask, ← h.same fun u => u.size.toNat]
  exact h.writeGrid .masked (h.same State.dcap) rfl (hg.applyMask m).cell_eq

theorem informationCells_congr {s t : State} (hsize : s.size = t.size) (hversion : s.version = t.version)
    (hecl : s.ecl = t.ecl) (hmask : s.mask = t.mask) : informationCells s = informationCells t := by
  simp only [informationCells, hsize, hversion, hecl, hmask]

theorem State.Agree.writeInformation (h : s.Agree t) (hs : s.Inv) (hg : SameCells s.size.toNat s.grid t.grid)
    (hp : s.phase = .masked) : (writeInformation s).Agree (writeInformation t) := by
  obtain ⟨_, hv, hn⟩ := hs.side_of_phase (by rw [hp]; decide) (by rw [hp]; decide)
  have hinfo := informationCells_congr (h.same State.size) (h.same State.version) (h.same State.ecl) (h.same State.mask)
  exact h.writeGrid .final (h.same State.dcap) (h.same State.mask)
    (hg.setStAll (informationCells_within (by omega)) hinfo).cell_eq

end

/-! ## Commands -/

/-- A command in agreeing states takes the same branch, gives the same response and has agreeing effects. -/
theorem exec_agree (i : Instr) {s t : State} (h : s.Agree t) (hs : s.Inv) (ht : t.Inv) :
    AgreeNext (exec i s) (exec i t) := by
  have hcells {p : Phase} (hp : (s.phase == p) = true) (h1 : 1 ≤ p.code := by decide)
      (h8 : p.code ≤ 8 := by decide) : SameCells s.size.toNat s.grid t.grid := h.sameCells hs ht (eq_of_beq hp) h1 h8
  cases i with
  | nop => exact agree_respond h rfl
  | sreset => exact agree_respond h.resetRegisters rfl
  | setver a => exact agree_gated_check h Iff.rfl fun hp _ => agree_respond (h.setVersion (eq_of_beq hp) a) rfl
  | setecl a =>
    refine agree_gated h fun _ => ?_
    split
    · exact agree_raise h _ _
    · exact agree_respond (h.setLevel _) rfl
  | rdreg a =>
    simp only [exec, execRdreg, ← h.same (State.controlRegister · a)]
    split
    · exact agree_raiseOrRefuse h _ _
    · exact agree_respond h rfl
  | gfadd a b => exact agree_gated h fun _ => agree_respond h rfl
  | gfmul a b => exact agree_gated h fun _ => agree_respond h rfl
  | gfdiv a b => exact agree_gated_check h Iff.rfl fun _ _ => agree_respond h rfl
  | gfexp a => exact agree_gated h fun _ => agree_respond h rfl
  | gflog a => exact agree_gated_check h Iff.rfl fun _ _ => agree_respond h rfl
  | rsinit a => exact agree_gated_check h Iff.rfl fun _ _ => agree_respond (h.startBlock a) rfl
  | rsdata a =>
    refine agree_gated_check h (by rw [h.same State.nsym]) fun _ hn => ?_
    refine agree_ite (by rw [h.same State.nsym, h.same State.dlen]) (fun _ => agree_raise h _ _) fun _ => ?_
    have hnext := h.feedBlock hs hn a
    exact agree_respond hnext (congrArg valueOf (hnext.same State.dlen))
  | rsrd a =>
    refine agree_gated_check h (by rw [h.same State.nsym]) fun _ hn => ?_
    refine agree_ite (by rw [h.same State.nsym]) (fun _ => agree_raise h _ _) fun ha => ?_
    exact agree_respond h (congrArg valueOf (h.rem_eq hn a (not_le.1 ha)))
  | rsgen a =>
    refine agree_gated_check h (by rw [h.same State.nsym]) fun _ hn => ?_
    refine agree_ite (by rw [h.same State.nsym]) (fun _ => agree_raise h _ _) fun ha => ?_
    exact agree_respond h (congrArg valueOf (h.gen_eq hn a (not_lt.1 ha)))
  | mxinit =>
    refine agree_gated h fun _ => agree_ite (by rw [h.same State.configured]) (fun _ => ?_) fun _ => agree_raise h _ _
    exact agree_respond (h.allocGrid hs ht) rfl
  | mxfind =>
    exact agree_gated h fun hp => agree_respond (h.writePattern (hcells hp) (by rw [h.same State.size]) .finders) rfl
  | mxtime =>
    exact agree_gated h fun hp => agree_respond (h.writePattern (hcells hp) (by rw [h.same State.size]) .timing) rfl
  | mxalign =>
    exact agree_gated h fun hp =>
      agree_respond (h.writePattern (hcells hp) (by rw [h.same State.version]) .aligned) rfl
  | mxrsv =>
    refine agree_gated h fun hp => ?_
    have hnext := h.reserveAreas (hcells hp)
    exact agree_respond hnext (congrArg valueOf (hnext.same State.dcap))
  | mxdata =>
    exact agree_gated_check h (by rw [h.same State.dcap, h.same State.cwlen]) fun hp _ =>
      agree_respond (h.placeData (hcells hp)) rfl
  | mxbuild =>
    refine agree_gated h fun _ => agree_ite (by rw [h.same State.configured]) (fun _ => ?_) fun _ => agree_raise h _ _
    have hbuild := h.buildPatterns hs ht
    have hdcap := hbuild.same State.dcap
    refine agree_ite (by rw [hdcap, h.same State.cwlen]) (fun _ => agree_raise h _ _) fun _ => ?_
    have hbuilt := sameCells_buildPatterns h hs ht
    rw [← buildPatterns_size s] at hbuilt
    exact agree_respond (hbuild.placeData hbuilt) (congrArg valueOf hdcap)
  | mskeval a =>
    exact agree_gated_check h Iff.rfl fun hp _ =>
      agree_respond (h.markPenalty (hcells hp) a) (by rw [h.maskScore_eq (hcells hp)])
  | msksel =>
    refine agree_gated h fun hp => ?_
    have hmask := h.selectedMask_eq (hcells hp)
    exact agree_respond ((h.markAllPenalties (hcells hp)).chooseMask (hcells hp) hmask) (congrArg valueOfNat hmask)
  | mskforce a => exact agree_gated_check h Iff.rfl fun hp _ => agree_respond (h.chooseMask (hcells hp) rfl) rfl
  | final =>
    exact agree_gated h fun hp => agree_respond (h.writeInformation hs (hcells hp) (eq_of_beq hp))
      (by rw [h.same State.ecl, h.same State.mask])
  | cwpush a =>
    refine agree_gated_check h (by rw [h.same State.cwlen]) fun _ hl => ?_
    have hnext := h.pushCodeword hs ht hl a
    exact agree_respond hnext (congrArg valueOf (hnext.same State.cwlen))
  | cwrd k =>
    exact agree_gated_check h (by rw [h.same State.cwlen]) fun _ hk =>
      agree_respond h (congrArg valueOf (h.cwbuf_eq k (not_le.1 hk)))
  | gridrd a b =>
    refine agree_gated_check h (by rw [h.same State.size]) fun hp hin => agree_respond h ?_
    obtain ⟨h1, h8⟩ := of_decide_eq_true hp
    obtain ⟨ha, hb⟩ := not_or.1 hin
    rw [h.grid_eq h1 h8 a b (not_le.1 ha) (not_le.1 hb)]

/-! ## Steps -/

/-- A step in agreeing states ends in agreeing states. -/
theorem step_agree {s t : State} (h : s.Agree t) (hs : s.Inv) (ht : t.Inv) : AgreeNext (step s) (step t) := by
  have hport := h.same State.pending
  cases hp : s.pending with
  | nil =>
    rw [step_idle hp, step_idle (hport ▸ hp)]
    exact .next h
  | cons action rest =>
    have hrest := h.withPending rest
    cases action with
    | reset =>
      rw [step_reset hp, step_reset (hport ▸ hp)]
      exact .next hrest.resetRegisters
    | command w =>
      cases hd : decode w with
      | none =>
        rw [step_illegal hp hd, step_illegal (hport ▸ hp) hd]
        exact agree_raiseOrRefuse hrest _ _
      | some i =>
        rw [step_command hp hd, step_command (hport ▸ hp) hd]
        exact exec_agree i hrest (hs.port rest s.responses) (ht.port rest t.responses)

/-- Settles O22: `step_agree`, since both results are next states. -/
theorem unspecifiedArraysUnobservable : Obligations.UnspecifiedArraysUnobservable := by
  intro s t s' t' hs ht h hstep hstep'
  have hnext := step_agree h hs ht
  rw [hstep, hstep'] at hnext
  cases hnext with
  | next h' => exact h'

/-- The reset state with other contents in the arrays, which the spec leaves unspecified there. -/
def otherReset : State :=
  { State.reset with
    gen := Vector.replicate 31 7
    rem := Vector.replicate 30 7
    cwbuf := [(0, 9)]
    grid := [(0, ⟨.dark, true⟩)] }

/-- The reset state and another meet the hypotheses of O22. -/
theorem reset_agree_otherReset : State.reset ≠ otherReset ∧ State.reset.Inv ∧ otherReset.Inv ∧
    State.reset.Agree otherReset := by
  have hother : otherReset.Inv := {
    State.Inv.reset with
    gen_eq := fun hn => absurd rfl hn
    rem_zero := fun hn => absurd rfl hn
    cwbuf_wf := by decide
    cwbuf_below := by decide
    grid_wf := by decide
    grid_below := by decide
    pen_eq := fun hp => absurd hp (by decide)
    dcap_eq := fun h5 => absurd h5 (by decide) }
  exact ⟨by decide, State.Inv.reset, hother, agree_resetRegisters (s := State.reset) (t := otherReset) rfl rfl⟩

end Sys2Proof.Machine
end
